-- ==== Sys2Proof/Word.lean ====
section
/-! DEFINITION. The two bit-vector types of AAP: the 16-bit word of registers and code memory, and the byte of data memory. -/

namespace Sys2Proof

/-- 16 bits: a general register (R20) or one addressable unit of code memory (R34). -/
abbrev Word := BitVec 16

/-- 8 bits: the addressable unit of data memory (R32). -/
abbrev Byte := BitVec 8

end Sys2Proof
end

