-- ==== Sys2Proof/Syntax.lean ====
section
/-! DEFINITION. Every row of spec/opcode_table.json as one constructor of `Instr`. -/

namespace Sys2Proof

/-- A register number, R0 to R63 (R21). How many registers exist is the parameter NREGS (R22). -/
abbrev Reg := Fin 64

/-- The 102 instructions of AAP (R94, R95, R105). `d`, `a`, `b` are the register fields of the encoding (R89), `I` an unsigned constant
(R90), `S` a signed constant (R91), `n` a shift amount, one more than the field holds (R92). The suffix 16 or 32 tells the two lengths
of a mnemonic apart, `Post` and `Pre` the post-increment and pre-decrement forms of a load or store. In a store `d` is the base
register and `a` the data (R140(b)). -/
inductive Instr where
  /-- R121: `NOP Rd,I`, 16 bits, format 5. -/
  | nop16 (d : Reg) (I : Nat)
  /-- R122: `ADD Rd,Ra,Rb`, 16 bits, format 1. -/
  | add16 (d a b : Reg)
  /-- R123: `SUB Rd,Ra,Rb`, 16 bits, format 1. -/
  | sub16 (d a b : Reg)
  /-- R124: `AND Rd,Ra,Rb`, 16 bits, format 1. -/
  | and16 (d a b : Reg)
  /-- R125: `OR Rd,Ra,Rb`, 16 bits, format 1. -/
  | or16 (d a b : Reg)
  /-- R126: `XOR Rd,Ra,Rb`, 16 bits, format 1. -/
  | xor16 (d a b : Reg)
  /-- R127: `ASR Rd,Ra,Rb`, 16 bits, format 1. -/
  | asr16 (d a b : Reg)
  /-- R128: `LSL Rd,Ra,Rb`, 16 bits, format 1. -/
  | lsl16 (d a b : Reg)
  /-- R129: `LSR Rd,Ra,Rb`, 16 bits, format 1. -/
  | lsr16 (d a b : Reg)
  /-- R130: `MOV Rd,Ra`, 16 bits, format 1. -/
  | mov16 (d a : Reg)
  /-- R131: `ADDI Rd,Ra,I`, 16 bits, format 2. -/
  | addi16 (d a : Reg) (I : Nat)
  /-- R132: `SUBI Rd,Ra,I`, 16 bits, format 2. -/
  | subi16 (d a : Reg) (I : Nat)
  /-- R133: `ASRI Rd,Ra,I`, 16 bits, format 2. -/
  | asri16 (d a : Reg) (n : Nat)
  /-- R134: `LSLI Rd,Ra,I`, 16 bits, format 2. -/
  | lsli16 (d a : Reg) (n : Nat)
  /-- R135: `LSRI Rd,Ra,I`, 16 bits, format 2. -/
  | lsri16 (d a : Reg) (n : Nat)
  /-- R136: `MOVI Rd,I`, 16 bits, format 5. -/
  | movi16 (d : Reg) (I : Nat)
  /-- R141: `LDB Rd,(Ra,S)`, 16 bits, format 4. -/
  | ldb16 (d a : Reg) (S : Int)
  /-- R142: `LDW Rd,(Ra,S)`, 16 bits, format 4. -/
  | ldw16 (d a : Reg) (S : Int)
  /-- R143: `LDB Rd,(Ra+,S)`, 16 bits, format 4. -/
  | ldbPost16 (d a : Reg) (S : Int)
  /-- R144: `LDW Rd,(Ra+,S)`, 16 bits, format 4. -/
  | ldwPost16 (d a : Reg) (S : Int)
  /-- R145: `LDB Rd,(-Ra,S)`, 16 bits, format 4. -/
  | ldbPre16 (d a : Reg) (S : Int)
  /-- R146: `LDW Rd,(-Ra,S)`, 16 bits, format 4. -/
  | ldwPre16 (d a : Reg) (S : Int)
  /-- R147: `STB (Rd,S),Ra`, 16 bits, format 4. -/
  | stb16 (d a : Reg) (S : Int)
  /-- R148: `STW (Rd,S),Ra`, 16 bits, format 4. -/
  | stw16 (d a : Reg) (S : Int)
  /-- R149: `STB (Rd+,S),Ra`, 16 bits, format 4. -/
  | stbPost16 (d a : Reg) (S : Int)
  /-- R150: `STW (Rd+,S),Ra`, 16 bits, format 4. -/
  | stwPost16 (d a : Reg) (S : Int)
  /-- R151: `STB (-Rd,S),Ra`, 16 bits, format 4. -/
  | stbPre16 (d a : Reg) (S : Int)
  /-- R152: `STW (-Rd,S),Ra`, 16 bits, format 4. -/
  | stwPre16 (d a : Reg) (S : Int)
  /-- R161: `BRA S`, 16 bits, format 7. -/
  | bra16 (S : Int)
  /-- R162: `BAL S,Rb`, 16 bits, format 6. -/
  | bal16 (S : Int) (b : Reg)
  /-- R163: `BEQ S,Ra,Rb`, 16 bits, format 3. -/
  | beq16 (S : Int) (a b : Reg)
  /-- R164: `BNE S,Ra,Rb`, 16 bits, format 3. -/
  | bne16 (S : Int) (a b : Reg)
  /-- R165: `BLTS S,Ra,Rb`, 16 bits, format 3. -/
  | blts16 (S : Int) (a b : Reg)
  /-- R166: `BLES S,Ra,Rb`, 16 bits, format 3. -/
  | bles16 (S : Int) (a b : Reg)
  /-- R167: `BLTU S,Ra,Rb`, 16 bits, format 3. -/
  | bltu16 (S : Int) (a b : Reg)
  /-- R168: `BLEU S,Ra,Rb`, 16 bits, format 3. -/
  | bleu16 (S : Int) (a b : Reg)
  /-- R169: `JMP Rd`, 16 bits, format 1. -/
  | jmp16 (d : Reg)
  /-- R170: `JAL Rd,Rb`, 16 bits, format 1. -/
  | jal16 (d b : Reg)
  /-- R171: `JEQ Rd,Ra,Rb`, 16 bits, format 1. -/
  | jeq16 (d a b : Reg)
  /-- R172: `JNE Rd,Ra,Rb`, 16 bits, format 1. -/
  | jne16 (d a b : Reg)
  /-- R173: `JLTS Rd,Ra,Rb`, 16 bits, format 1. -/
  | jlts16 (d a b : Reg)
  /-- R174: `JLES Rd,Ra,Rb`, 16 bits, format 1. -/
  | jles16 (d a b : Reg)
  /-- R175: `JLTU Rd,Ra,Rb`, 16 bits, format 1. -/
  | jltu16 (d a b : Reg)
  /-- R176: `JLEU Rd,Ra,Rb`, 16 bits, format 1. -/
  | jleu16 (d a b : Reg)
  /-- R190: `RTE Rd`, 16 bits, format 1. -/
  | rte (d : Reg)
  /-- R201: `NOP Rd,I`, 32 bits, format 14. -/
  | nop32 (d : Reg) (I : Nat)
  /-- R202: `ADD Rd,Ra,Rb`, 32 bits, format 8. -/
  | add32 (d a b : Reg)
  /-- R203: `SUB Rd,Ra,Rb`, 32 bits, format 8. -/
  | sub32 (d a b : Reg)
  /-- R204: `AND Rd,Ra,Rb`, 32 bits, format 8. -/
  | and32 (d a b : Reg)
  /-- R205: `OR Rd,Ra,Rb`, 32 bits, format 8. -/
  | or32 (d a b : Reg)
  /-- R206: `XOR Rd,Ra,Rb`, 32 bits, format 8. -/
  | xor32 (d a b : Reg)
  /-- R207: `ASR Rd,Ra,Rb`, 32 bits, format 8. -/
  | asr32 (d a b : Reg)
  /-- R208: `LSL Rd,Ra,Rb`, 32 bits, format 8. -/
  | lsl32 (d a b : Reg)
  /-- R209: `LSR Rd,Ra,Rb`, 32 bits, format 8. -/
  | lsr32 (d a b : Reg)
  /-- R210: `MOV Rd,Ra`, 32 bits, format 8. -/
  | mov32 (d a : Reg)
  /-- R211: `ADDI Rd,Ra,I`, 32 bits, format 11. -/
  | addi32 (d a : Reg) (I : Nat)
  /-- R212: `SUBI Rd,Ra,I`, 32 bits, format 11. -/
  | subi32 (d a : Reg) (I : Nat)
  /-- R213: `ASRI Rd,Ra,I`, 32 bits, format 9. -/
  | asri32 (d a : Reg) (n : Nat)
  /-- R214: `LSLI Rd,Ra,I`, 32 bits, format 9. -/
  | lsli32 (d a : Reg) (n : Nat)
  /-- R215: `LSRI Rd,Ra,I`, 32 bits, format 9. -/
  | lsri32 (d a : Reg) (n : Nat)
  /-- R216: `MOVI Rd,I`, 32 bits, format 15. -/
  | movi32 (d : Reg) (I : Nat)
  /-- R217: `ADDC Rd,Ra,Rb`, 32 bits, format 8. -/
  | addc (d a b : Reg)
  /-- R218: `SUBC Rd,Ra,Rb`, 32 bits, format 8. -/
  | subc (d a b : Reg)
  /-- R219: `ANDI Rd,Ra,I`, 32 bits, format 10. -/
  | andi (d a : Reg) (I : Nat)
  /-- R220: `ORI Rd,Ra,I`, 32 bits, format 10. -/
  | ori (d a : Reg) (I : Nat)
  /-- R221: `XORI Rd,Ra,I`, 32 bits, format 10. -/
  | xori (d a : Reg) (I : Nat)
  /-- R231: `LDB Rd,(Ra,S)`, 32 bits, format 13. -/
  | ldb32 (d a : Reg) (S : Int)
  /-- R232: `LDW Rd,(Ra,S)`, 32 bits, format 13. -/
  | ldw32 (d a : Reg) (S : Int)
  /-- R233: `LDB Rd,(Ra+,S)`, 32 bits, format 13. -/
  | ldbPost32 (d a : Reg) (S : Int)
  /-- R234: `LDW Rd,(Ra+,S)`, 32 bits, format 13. -/
  | ldwPost32 (d a : Reg) (S : Int)
  /-- R235: `LDB Rd,(-Ra,S)`, 32 bits, format 13. -/
  | ldbPre32 (d a : Reg) (S : Int)
  /-- R236: `LDW Rd,(-Ra,S)`, 32 bits, format 13. -/
  | ldwPre32 (d a : Reg) (S : Int)
  /-- R237: `STB (Rd,S),Ra`, 32 bits, format 13. -/
  | stb32 (d a : Reg) (S : Int)
  /-- R238: `STW (Rd,S),Ra`, 32 bits, format 13. -/
  | stw32 (d a : Reg) (S : Int)
  /-- R239: `STB (Rd+,S),Ra`, 32 bits, format 13. -/
  | stbPost32 (d a : Reg) (S : Int)
  /-- R240: `STW (Rd+,S),Ra`, 32 bits, format 13. -/
  | stwPost32 (d a : Reg) (S : Int)
  /-- R241: `STB (-Rd,S),Ra`, 32 bits, format 13. -/
  | stbPre32 (d a : Reg) (S : Int)
  /-- R242: `STW (-Rd,S),Ra`, 32 bits, format 13. -/
  | stwPre32 (d a : Reg) (S : Int)
  /-- R252: `BRA S`, 32 bits, format 17. -/
  | bra32 (S : Int)
  /-- R253: `BAL S,Rb`, 32 bits, format 16. -/
  | bal32 (S : Int) (b : Reg)
  /-- R254: `BEQ S,Ra,Rb`, 32 bits, format 12. -/
  | beq32 (S : Int) (a b : Reg)
  /-- R255: `BNE S,Ra,Rb`, 32 bits, format 12. -/
  | bne32 (S : Int) (a b : Reg)
  /-- R256: `BLTS S,Ra,Rb`, 32 bits, format 12. -/
  | blts32 (S : Int) (a b : Reg)
  /-- R257: `BLES S,Ra,Rb`, 32 bits, format 12. -/
  | bles32 (S : Int) (a b : Reg)
  /-- R258: `BLTU S,Ra,Rb`, 32 bits, format 12. -/
  | bltu32 (S : Int) (a b : Reg)
  /-- R259: `BLEU S,Ra,Rb`, 32 bits, format 12. -/
  | bleu32 (S : Int) (a b : Reg)
  /-- R260: `JMP Rd`, 32 bits, format 8. -/
  | jmp32 (d : Reg)
  /-- R261: `JAL Rd,Rb`, 32 bits, format 8. -/
  | jal32 (d b : Reg)
  /-- R262: `JEQ Rd,Ra,Rb`, 32 bits, format 8. -/
  | jeq32 (d a b : Reg)
  /-- R263: `JNE Rd,Ra,Rb`, 32 bits, format 8. -/
  | jne32 (d a b : Reg)
  /-- R264: `JLTS Rd,Ra,Rb`, 32 bits, format 8. -/
  | jlts32 (d a b : Reg)
  /-- R265: `JLES Rd,Ra,Rb`, 32 bits, format 8. -/
  | jles32 (d a b : Reg)
  /-- R266: `JLTU Rd,Ra,Rb`, 32 bits, format 8. -/
  | jltu32 (d a b : Reg)
  /-- R267: `JLEU Rd,Ra,Rb`, 32 bits, format 8. -/
  | jleu32 (d a b : Reg)
  /-- R268: `JMPL Rd`, 32 bits, format 8. -/
  | jmpl (d : Reg)
  /-- R269: `JALL Rd,Rb`, 32 bits, format 8. -/
  | jall (d b : Reg)
  /-- R270: `JEQL Rd,Ra,Rb`, 32 bits, format 8. -/
  | jeql (d a b : Reg)
  /-- R271: `JNEL Rd,Ra,Rb`, 32 bits, format 8. -/
  | jnel (d a b : Reg)
  /-- R272: `JLTSL Rd,Ra,Rb`, 32 bits, format 8. -/
  | jltsl (d a b : Reg)
  /-- R273: `JLESL Rd,Ra,Rb`, 32 bits, format 8. -/
  | jlesl (d a b : Reg)
  /-- R274: `JLTUL Rd,Ra,Rb`, 32 bits, format 8. -/
  | jltul (d a b : Reg)
  /-- R275: `JLEUL Rd,Ra,Rb`, 32 bits, format 8. -/
  | jleul (d a b : Reg)
deriving DecidableEq, Repr

end Sys2Proof
end

