-- ==== Sys2Proof/Config.lean ====
section
/-! DEFINITION. What an implementation fixes (the parameters of 00_scope.md R4, as plain data) and the free values. -/

namespace Sys2Proof

/-- What a range of data addresses holds: plain memory (R49), or a device whose behaviour the spec does not give (U15). -/
inductive RegionKind where
  | memory
  | device
deriving DecidableEq, Repr

/-- One range of existing data addresses. -/
structure Region where
  base : Nat
  size : Nat
  kind : RegionKind
deriving DecidableEq, Repr

/-- One thing the side effect of a NOP can do (R121, R201, entry 13): the register gets the value. Registers are all a NOP can reach:
it writes no flag (R29, R121), no data memory (R32, R120, R200(e)) and no code memory (R34), it ends at its own `pc` plus its length
(R26), and of the NOPs only the break halts (R302, R306, R308, U2). -/
structure SideEffect where
  reg : Reg
  value : Word
deriving DecidableEq, Repr

/-- What `nop_effect` of R4 (D11) says of one NOP. -/
inductive NopPolicy where
  /-- No meaning: the default R4 suggests. -/
  | refuse
  /-- These side effects, in order, in every state; the empty list is the "no effect" of R201. -/
  | effects (es : List SideEffect)
  /-- Any side effects: a free value of the operands and the state decides (entry 13). -/
  | free
deriving DecidableEq, Repr

/-- What `nop_effect` says of the NOPs with one `d` and `I`. -/
structure NopRule where
  d : Nat
  I : Nat
  policy : NopPolicy
deriving DecidableEq, Repr

/-- A range of word addresses of code memory. -/
structure CodeRange where
  base : Nat
  size : Nat
deriving DecidableEq, Repr

/-- The parameter `imem_exists` of R4 (R34, R44, D8): which code words exist. -/
inductive ImemExists where
  /-- Exactly the words of the loaded program image: the default of R4. -/
  | image
  /-- Exactly the words of these ranges, whether or not the image places a value in them. -/
  | ranges (rs : List CodeRange)
deriving DecidableEq, Repr

/-- The parameter `SAME_REG_WRITEBACK` of R4 (R140(g), D15). -/
inductive SameRegPolicy where
  /-- No meaning: the default R4 suggests. -/
  | refuse
  /-- The instruction runs and the value that R140(g) leaves open is a free value (entry 15). -/
  | free
deriving DecidableEq, Repr

/-- The parameter `IMEM_BYTE_ORDER` of R4 (R46, D14): the order of the bytes of a code word in a byte-oriented container. -/
inductive ByteOrder where
  | littleEndian
  | bigEndian
deriving DecidableEq, Repr

/-- The implementation parameters of R4, one field each; `nop_effect` has two, a table and what holds outside it. -/
structure Config where
  /-- `NREGS`, the number of general registers (R21, D1). -/
  nregs : Nat
  /-- `PCW`, the width of `pc` in bits (R25, D3). -/
  pcw : Nat
  /-- `dmem_exists`: a data byte exists when a region holds its address (R50, D8). -/
  dmem : List Region
  /-- `imem_exists` (R34, R44, D8). -/
  imem : ImemExists
  /-- `RESET_PC` (R33, D13). -/
  resetPc : Nat
  /-- `nop_effect` (R121, R201, D11) for the `d` and `I` listed: the first rule for them decides. -/
  nopFor : List NopRule
  /-- `nop_effect` for every other `d` and `I`. -/
  nop : NopPolicy
  /-- `RTE_DEFINED` (R190, D12). -/
  rteDefined : Bool
  /-- `SAME_REG_WRITEBACK` (R140(g), D15). -/
  sameReg : SameRegPolicy
  /-- `IMEM_BYTE_ORDER` (R46, D14). -/
  imemByteOrder : ByteOrder
deriving DecidableEq, Repr

/-- The ranges R4, D1 and D3 give the parameters: 1 <= NREGS <= 64, 17 <= PCW <= 32, RESET_PC a value of `pc`. -/
abbrev Config.wf (c : Config) : Prop :=
  1 ≤ c.nregs ∧ c.nregs ≤ 64 ∧ 17 ≤ c.pcw ∧ c.pcw ≤ 32 ∧ c.resetPc < 2 ^ c.pcw

/-- FREE VALUE (U23, R330, entry 7): what an existing data byte that nothing has written reads as, by address. -/
opaque Config.unwrittenByte : Nat → Byte

/-- FREE VALUE (R34, R44, entry 9): the value of a code word that exists and that the program image does not place, by address. -/
opaque Config.unplacedWord : Nat → Word

/-- FREE VALUE (U20, R140(g), entry 15): the register's value at the given draw after a load whose destination is the base register
it also writes back. -/
opaque Config.sameRegLoad : (draw : Nat) → Word

/-- FREE VALUE (U20, R140(g), entry 15): whether, at the given draw, a pre-decrement store whose data register is its base stores
the old (true) or the decremented (false) register. -/
opaque Config.sameRegStoresOld : (draw : Nat) → Bool

/-- FREE VALUE (U6, R306, entry 11): whether, at the given draw, the break advances `pc` before it halts. -/
opaque Config.breakAdvances : (draw : Nat) → Bool

end Sys2Proof
end

