-- ==== Sys2Proof/Machine/Platform.lean ====
section
/-! DEFINITION. The implementation parameters after reset (00_scope.md R4). -/

namespace Sys2Proof.Machine

/-- The parameters of R4 that the machine has after reset: its defaults (D1, D3, D8, D13, D14), but for the three whose default
is to refuse an instruction the spec gives an effect: those run (entries 13, 14, 15). -/
def platform : Config where
  nregs := 64
  pcw := 24
  dmem := [{ base := 0, size := 65536, kind := .memory }]
  imem := .image
  resetPc := 0
  nopFor := []
  nop := .free
  rteDefined := true
  sameReg := .free
  imemByteOrder := .littleEndian

end Sys2Proof.Machine
end

