-- ==== Sys2Proof/Machine/State.lean ====
section
/-! DEFINITION. The machine's state as plain data (10_state.md), the reasons a step can stop, and the state after reset. -/

namespace Sys2Proof.Machine

/-- Sparse data by address: addresses strictly rising, one entry each. An address that is not listed holds no value. -/
abbrev Memory (α : Type) := List (Nat × α)

/-- The canonical form of a memory: its addresses strictly rise. -/
abbrev Memory.wf {α : Type} (m : Memory α) : Prop := (m.map Prod.fst).Pairwise (· < ·)

/-- Whether the processor runs or has halted (R36, R306). -/
inductive RunStatus where
  | running
  | halted
deriving DecidableEq, Repr

/-- The terminal faults of R302. The step that ends in one leaves no next state: the state is the one it was stepped from (R303). -/
inductive Fault where
  /-- `BusError(addr)` (R301): raised by a data access to a byte that does not exist, a fetch of a code word that does not exist,
  and a new `pc` outside `0 .. 2^PCW - 1` (the address may be negative). Safe: the machine stops where the spec's does. -/
  | busError (addr : Int)
  /-- `IllegalInstruction(w0, w1)` (R99, R302): raised by the decode of words that match no row of the opcode table. Safe: nothing is
  claimed of what hardware does with them. -/
  | illegalInstruction (words : List Word)
  /-- `IllegalRegister(n)` (R22): raised after decode when a register field, or `d + 1` of a long jump, is at least NREGS. Safe:
  nothing is claimed of what hardware does with it. -/
  | illegalRegister (n : Nat)
deriving DecidableEq, Repr

/-- Why a step has no meaning (`Refused` of R302). -/
inductive Refusal where
  /-- Raised by an arm of `exec` whose instruction has no meaning yet. Safe. -/
  | notModelled (mnemonic : String)
  /-- Raised by an implementation-defined NOP when the parameter `nop_effect` is "refuse" (R121, R201). Safe. -/
  | nopEffect (d I : Nat)
  /-- Raised by RTE when the parameter `RTE_DEFINED` is false (R190). Safe. -/
  | rteUndefined
  /-- Raised by the three write-back cases of R140(g) when the parameter `SAME_REG_WRITEBACK` is "refuse". Safe. -/
  | sameRegWriteback (r : Nat)
  /-- Raised by a data access to an address that is a device's (R49, U15). Safe. -/
  | device (addr : Nat)
  /-- Raised by a step of a halted processor: it takes no further step (R36, R306, U6). Safe. -/
  | halted
deriving DecidableEq, Repr

/-- All the state of the machine (10_state.md), its parameters (R4) and the count of free values drawn. -/
structure State where
  /-- The general registers (R20, R21): 64 slots, of which those below NREGS exist (R22). -/
  regs : Vector Word 64
  /-- The program counter, a word address (R24, R25). -/
  pc : Nat
  /-- The carry flag (R29). -/
  carry : Bool
  /-- Data memory (R32): the bytes that hold a value, by byte address. -/
  dmem : List Host.Cell
  /-- Code memory (R34): the words the program image places, by word address. -/
  imem : List (Nat × Word)
  /-- Running or halted (R36). -/
  status : RunStatus
  /-- The MODEL's own field: how many free values have been drawn (entry 27). -/
  draws : Nat
  /-- The implementation parameters (R4): no step changes them (entry 1). -/
  cfg : Config
deriving DecidableEq, Repr

/-- The machine after reset with the parameters `c` (R33, R330): `pc` is RESET_PC and the processor runs. Registers and carry are 0
by the model's choice (entries 4, 5), no data byte holds a value (entry 7), and no program is loaded (entry 8). -/
def State.resetWith (c : Config) : State where
  regs := Vector.replicate 64 0
  pc := c.resetPc
  carry := false
  dmem := []
  imem := []
  status := .running
  draws := 0
  cfg := c

/-- The machine after reset, with the parameters of Platform.lean. -/
def State.reset : State := .resetWith platform

/-- The outcome of an operation: a value, a fault or a refusal (R9). -/
abbrev Result (α : Type) := Host.Outcome α Fault Refusal

end Sys2Proof.Machine

/-- FREE VALUE (U1, R121, R201, entry 13): `nop_effect(d, I, state)` of R4 where the parameter leaves it free: the side effects
of the NOP `d`, `I` in a state, in order. -/
opaque Sys2Proof.Config.nopEffect : (d I : Nat) → Machine.State → List Sys2Proof.SideEffect
end

