-- ==== Sys2Proof/Machine/Ops.lean ====
section
/-! DEFINITION. The named operations over outcomes, registers, `pc` and data memory, and the taking of an exception. -/

namespace Sys2Proof.Machine

/-! Outcomes -/

/-- `o`, and on its value `f`; a fault or a refusal of `o` abandons the rest (R9). -/
def andThen {α β : Type} (o : Result α) (f : α → Result β) : Result β :=
  match o with
  | .next a => f a
  | .fault r => .fault r
  | .refused r => .refused r

/-- TAKING AN EXCEPTION (R301 to R304, D9): the spec defines no entry, so every exception is terminal: the step ends in the fault,
which carries the kind and the information of R302, no handler runs, and the state stays the one before the step. -/
def raise {α : Type} (f : Fault) : Result α := .fault f

/-! Memories as canonical lists -/

/-- The entry at an address, if it is listed. -/
def Memory.get {α : Type} : Memory α → Nat → Option α
  | [], _ => none
  | (k, v) :: m, a => if k = a then some v else Memory.get m a

/-- The memory with one entry set, in its place by address. -/
def Memory.put {α : Type} : Memory α → Nat → α → Memory α
  | [], a, v => [(a, v)]
  | (k, w) :: m, a, v =>
    if a < k then (a, v) :: (k, w) :: m
    else if k = a then (k, v) :: m
    else (k, w) :: Memory.put m a v

/-! Registers -/

/-- `x[r]` (R7). -/
def readReg (s : State) (r : Reg) : Word := s.regs[r]

/-- `x[r] <- v` (R7, R20); no register is hard-wired (R21). -/
def writeReg (s : State) (r : Reg) (v : Word) : State := { s with regs := s.regs.set r v }

/-- Register number `n` names a register (R22): it is below NREGS, and a number the encodings can hold (R21). -/
def hasReg (s : State) (n : Nat) : Bool := decide (n < s.cfg.nregs) && decide (n < 64)

/-- The check of every register field (R22, R28): the first number that names no register raises `IllegalRegister`. -/
def checkRegs (s : State) : List Nat → Result Unit
  | [] => .next ()
  | n :: ns => if hasReg s n then checkRegs s ns else raise (.illegalRegister n)

/-! The program counter -/

/-- `pc <- t`: a value outside `0 .. 2^PCW - 1` is not stored and raises `BusError(t)` (R27, D4). -/
def goto (t : Int) (s : State) : Result State :=
  if 0 ≤ t ∧ t < 2 ^ s.cfg.pcw then .next { s with pc := t.toNat } else raise (.busError t)

/-- `pc <- pc + len`: the end of every instruction of `len` words that does not transfer control (R26). -/
def advance (len : Nat) (s : State) : Result State := goto (s.pc + len) s

/-- RETURN FROM EXCEPTION (R190, R305): the partial outcome `PC <- Rd`, when the parameter `RTE_DEFINED` admits it. There is no
saved status, mode or interrupt enable to restore (R30, R304). -/
def returnFromException (d : Reg) (s : State) : Result State :=
  if s.cfg.rteDefined then goto (readReg s d).toNat s else .refused .rteUndefined

/-! Free values and the halt -/

/-- The state after one free value has been drawn (entry 27). -/
def drawn (s : State) : State := { s with draws := s.draws + 1 }

/-- The break (R306, D24): the processor halts with registers, carry and memory as they were. `pc` is the break's address or that
address plus one, which of the two is a free value (entry 11). -/
def halt (s : State) : State :=
  { s with
    status := .halted
    pc := if Config.breakAdvances s.draws ∧ s.pc + 1 < 2 ^ s.cfg.pcw then s.pc + 1 else s.pc
    draws := s.draws + 1 }

/-! Data memory -/

/-- The number of bytes of an access (R49). -/
inductive Size where
  | byte
  | word
deriving DecidableEq, Repr

/-- `n` of R42 and R43. -/
def Size.bytes : Size → Nat
  | .byte => 1
  | .word => 2

/-- What kind of data address `a` is; `none` is an address that does not exist (`dmem_exists`, R50). -/
def dmemKind (c : Config) (a : Nat) : Option RegionKind :=
  (c.dmem.find? fun r => decide (r.base ≤ a) && decide (a < r.base + r.size)).map Region.kind

/-- The existence check of one byte (R42, R43, R48); a device's address is refused (R49, U15). -/
def checkByte (s : State) (a : Nat) : Result Unit :=
  if 65535 < a then raise (.busError a)
  else
    match dmemKind s.cfg a with
    | none => raise (.busError a)
    | some .memory => .next ()
    | some .device => .refused (.device a)

/-- The existence checks of `n` bytes from `a` up, all before any byte is read or written (R42, R43). -/
def checkBytes (s : State) (a : Nat) : Nat → Result Unit
  | 0 => .next ()
  | n + 1 => andThen (checkByte s a) fun _ => checkBytes s (a + 1) n

/-- The value of one data byte: the value last stored, or a free value while nothing has been (R52, R330, entry 7). -/
def byteAt (s : State) (a : Nat) : Byte :=
  match Memory.get s.dmem a with
  | some v => v
  | none => Config.unwrittenByte a

/-- `dmem[a] <- v`. -/
def writeByte (s : State) (a : Nat) (v : Byte) : State := { s with dmem := Memory.put s.dmem a v }

/-- `v & 255` (R43). -/
def lowByte (v : Word) : Byte := BitVec.ofNat 8 v.toNat

/-- `(v >> 8) & 255` (R43). -/
def highByte (v : Word) : Byte := BitVec.ofNat 8 (v.toNat / 256)

/-- The value at `a`: a byte zero-extended (R49), or two bytes with the low one at the lower address (R42, R45). -/
def dataAt (s : State) (a : Nat) : Size → Word
  | .byte => BitVec.ofNat 16 (byteAt s a).toNat
  | .word => BitVec.ofNat 16 ((byteAt s a).toNat + (byteAt s (a + 1)).toNat * 256)

/-- The bytes of `v` stored at `a` (R43). -/
def storeData (s : State) (a : Nat) (v : Word) : Size → State
  | .byte => writeByte s a (lowByte v)
  | .word => writeByte (writeByte s a (lowByte v)) (a + 1) (highByte v)

/-- `MemRead(a, n)` (R42). -/
def memRead (s : State) (a : Nat) (sz : Size) : Result Word :=
  andThen (checkBytes s a sz.bytes) fun _ => .next (dataAt s a sz)

/-- `MemWrite(a, n, v)` (R43). -/
def memWrite (s : State) (a : Nat) (sz : Size) (v : Word) : Result State :=
  andThen (checkBytes s a sz.bytes) fun _ => .next (storeData s a v sz)

/-! NOP side effects -/

/-- What the parameter `nop_effect` says of the NOPs `d`, `I`. -/
def nopPolicy (c : Config) (d I : Nat) : NopPolicy :=
  ((c.nopFor.find? fun r => decide (r.d = d) && decide (r.I = I)).map NopRule.policy).getD c.nop

/-- One side effect (R121, entry 13). On a register that does not exist it is no effect. -/
def applyEffect (s : State) (e : SideEffect) : State := if hasReg s e.reg then writeReg s e.reg e.value else s

/-- Side effects one after the other. -/
def applyEffects : List SideEffect → State → State
  | [], s => s
  | e :: es, s => applyEffects es (applyEffect s e)

/-- `nop_effect(d, I, state); pc <- pc + len` (R121, R201): the side effects of the parameter `nop_effect`, and then the advance
from the NOP's own `pc`, which they leave alone (R24, R26). -/
def implementationNop (len : Nat) (d : Reg) (I : Nat) (s : State) : Result State :=
  match nopPolicy s.cfg d I with
  | .refuse => .refused (.nopEffect d I)
  | .effects es => advance len (applyEffects es s)
  | .free => advance len (applyEffects (Config.nopEffect d I s) (drawn s))

end Sys2Proof.Machine
end

