-- ==== Sys2Proof/Machine/Flags.lean ====
section
/-! DEFINITION. The results and the carry of every ALU operation, and the comparisons of the conditional branches. Each ALU
operation takes the carry before the instruction and its two operands and gives the result and the carry after it (R29). -/

namespace Sys2Proof.Machine

/-- The low 16 bits of an exact integer (R6, R20). -/
def wrap (v : Int) : Word := BitVec.ofInt 16 v

/-- An ALU operation: old carry, left operand, right operand; result, new carry. -/
abbrev AluOp := Bool → Word → Word → Word × Bool

/-- ADD, ADDI (R122, R131): the sum and the carry out of bit 15. -/
def aluAdd : AluOp := fun _ x y => (wrap (x.toNat + y.toNat), decide (x.toNat + y.toNat ≥ 65536))

/-- SUB, SUBI (R123, R132): the difference and the borrow. -/
def aluSub : AluOp := fun _ x y => (wrap (x.toNat - y.toNat), decide (y.toNat > x.toNat))

/-- ADDC (R217): the sum with the old carry. -/
def aluAddc : AluOp := fun c x y =>
  (wrap (x.toNat + y.toNat + c.toNat), decide (x.toNat + y.toNat + c.toNat ≥ 65536))

/-- SUBC (R218): the difference with the old carry as a borrow. -/
def aluSubc : AluOp := fun c x y =>
  (wrap (x.toNat - y.toNat - c.toNat), decide (y.toNat + c.toNat > x.toNat))

/-- AND, ANDI (R124, R219): carry unchanged. -/
def aluAnd : AluOp := fun c x y => (x &&& y, c)

/-- OR, ORI (R125, R220): carry unchanged. -/
def aluOr : AluOp := fun c x y => (x ||| y, c)

/-- XOR, XORI (R126, R221): carry unchanged. -/
def aluXor : AluOp := fun c x y => (x ^^^ y, c)

/-- ASR, ASRI (R127, R133, C11): the 17 bits of the old carry above `x` shifted right, zeros entering; carry cleared. -/
def aluAsr : AluOp := fun c x y => (BitVec.ofNat 16 ((x.toNat + c.toNat * 65536) >>> y.toNat), false)

/-- LSL, LSLI (R128, R134, R214): zero for a count of 16 or more; carry unchanged. -/
def aluLsl : AluOp := fun c x y => (if y.toNat ≥ 16 then 0 else BitVec.ofNat 16 (x.toNat <<< y.toNat), c)

/-- LSR, LSRI (R129, R135, R215): zero for a count of 16 or more; carry unchanged. -/
def aluLsr : AluOp := fun c x y => (if y.toNat ≥ 16 then 0 else BitVec.ofNat 16 (x.toNat >>> y.toNat), c)

/-- The comparisons the branches and jumps provide (R160(d), (e)). -/
inductive Cond where
  | eq
  | ne
  | lts
  | les
  | ltu
  | leu
deriving DecidableEq, Repr

/-- Whether the comparison of `x` (the left operand, Ra) with `y` (Rb) holds (R160(d)). -/
def Cond.holds : Cond → Word → Word → Bool
  | .eq, x, y => decide (x = y)
  | .ne, x, y => decide (x ≠ y)
  | .lts, x, y => decide (x.toInt < y.toInt)
  | .les, x, y => decide (x.toInt ≤ y.toInt)
  | .ltu, x, y => decide (x.toNat < y.toNat)
  | .leu, x, y => decide (x.toNat ≤ y.toNat)

end Sys2Proof.Machine
end

