-- ==== Sys2Proof/Machine/Operands.lean ====
section
/-! DEFINITION. The operand forms: which registers an instruction names, effective addresses, jump targets, link values, and the
one operation behind each shape of instruction. `len` is the instruction's length in words. -/

namespace Sys2Proof.Machine

/-- The register numbers that R28 checks against NREGS: every register field of the instruction, and `d + 1` for a long jump
(R22, R251). -/
def regFields : Instr → List Nat
  | .nop16 d _ => [d]
  | .add16 d a b => [d, a, b]
  | .sub16 d a b => [d, a, b]
  | .and16 d a b => [d, a, b]
  | .or16 d a b => [d, a, b]
  | .xor16 d a b => [d, a, b]
  | .asr16 d a b => [d, a, b]
  | .lsl16 d a b => [d, a, b]
  | .lsr16 d a b => [d, a, b]
  | .mov16 d a => [d, a]
  | .addi16 d a _ => [d, a]
  | .subi16 d a _ => [d, a]
  | .asri16 d a _ => [d, a]
  | .lsli16 d a _ => [d, a]
  | .lsri16 d a _ => [d, a]
  | .movi16 d _ => [d]
  | .ldb16 d a _ => [d, a]
  | .ldw16 d a _ => [d, a]
  | .ldbPost16 d a _ => [d, a]
  | .ldwPost16 d a _ => [d, a]
  | .ldbPre16 d a _ => [d, a]
  | .ldwPre16 d a _ => [d, a]
  | .stb16 d a _ => [d, a]
  | .stw16 d a _ => [d, a]
  | .stbPost16 d a _ => [d, a]
  | .stwPost16 d a _ => [d, a]
  | .stbPre16 d a _ => [d, a]
  | .stwPre16 d a _ => [d, a]
  | .bra16 _ => []
  | .bal16 _ b => [b]
  | .beq16 _ a b => [a, b]
  | .bne16 _ a b => [a, b]
  | .blts16 _ a b => [a, b]
  | .bles16 _ a b => [a, b]
  | .bltu16 _ a b => [a, b]
  | .bleu16 _ a b => [a, b]
  | .jmp16 d => [d]
  | .jal16 d b => [d, b]
  | .jeq16 d a b => [d, a, b]
  | .jne16 d a b => [d, a, b]
  | .jlts16 d a b => [d, a, b]
  | .jles16 d a b => [d, a, b]
  | .jltu16 d a b => [d, a, b]
  | .jleu16 d a b => [d, a, b]
  | .rte d => [d]
  | .nop32 d _ => [d]
  | .add32 d a b => [d, a, b]
  | .sub32 d a b => [d, a, b]
  | .and32 d a b => [d, a, b]
  | .or32 d a b => [d, a, b]
  | .xor32 d a b => [d, a, b]
  | .asr32 d a b => [d, a, b]
  | .lsl32 d a b => [d, a, b]
  | .lsr32 d a b => [d, a, b]
  | .mov32 d a => [d, a]
  | .addi32 d a _ => [d, a]
  | .subi32 d a _ => [d, a]
  | .asri32 d a _ => [d, a]
  | .lsli32 d a _ => [d, a]
  | .lsri32 d a _ => [d, a]
  | .movi32 d _ => [d]
  | .addc d a b => [d, a, b]
  | .subc d a b => [d, a, b]
  | .andi d a _ => [d, a]
  | .ori d a _ => [d, a]
  | .xori d a _ => [d, a]
  | .ldb32 d a _ => [d, a]
  | .ldw32 d a _ => [d, a]
  | .ldbPost32 d a _ => [d, a]
  | .ldwPost32 d a _ => [d, a]
  | .ldbPre32 d a _ => [d, a]
  | .ldwPre32 d a _ => [d, a]
  | .stb32 d a _ => [d, a]
  | .stw32 d a _ => [d, a]
  | .stbPost32 d a _ => [d, a]
  | .stwPost32 d a _ => [d, a]
  | .stbPre32 d a _ => [d, a]
  | .stwPre32 d a _ => [d, a]
  | .bra32 _ => []
  | .bal32 _ b => [b]
  | .beq32 _ a b => [a, b]
  | .bne32 _ a b => [a, b]
  | .blts32 _ a b => [a, b]
  | .bles32 _ a b => [a, b]
  | .bltu32 _ a b => [a, b]
  | .bleu32 _ a b => [a, b]
  | .jmp32 d => [d]
  | .jal32 d b => [d, b]
  | .jeq32 d a b => [d, a, b]
  | .jne32 d a b => [d, a, b]
  | .jlts32 d a b => [d, a, b]
  | .jles32 d a b => [d, a, b]
  | .jltu32 d a b => [d, a, b]
  | .jleu32 d a b => [d, a, b]
  | .jmpl d => [d, d + 1]
  | .jall d b => [d, d + 1, b]
  | .jeql d a b => [d, d + 1, a, b]
  | .jnel d a b => [d, d + 1, a, b]
  | .jltsl d a b => [d, d + 1, a, b]
  | .jlesl d a b => [d, d + 1, a, b]
  | .jltul d a b => [d, d + 1, a, b]
  | .jleul d a b => [d, d + 1, a, b]

/-! Operands -/

/-- `zext_16(I)`: an unsigned constant as an operand (R90). -/
def immediate (I : Nat) : Word := BitVec.ofNat 16 I

/-- The effective address of the indexed and post-increment forms, `(x[base] + S) mod 2^16` (R41, R140(h)). -/
def addressPlus (s : State) (base : Reg) (S : Int) : Word := wrap ((readReg s base).toNat + S)

/-- The effective address of the pre-decrement forms, `(x[base] - S) mod 2^16` (R41). -/
def addressMinus (s : State) (base : Reg) (S : Int) : Word := wrap ((readReg s base).toNat - S)

/-- The target of a relative branch, over the integers (R160(b), R250(b)). -/
def relativeTarget (s : State) (S : Int) : Int := s.pc + S

/-- The target of a jump through one register (R160(b)). -/
def registerTarget (s : State) (d : Reg) : Int := (readReg s d).toNat

/-- The target of a long jump: `x[d+1]` is the high half, `x[d]` the low half (R251, D26). -/
def pairTarget (s : State) (d : Reg) : Int := (readReg s (d + 1)).toNat * 65536 + (readReg s d).toNat

/-- The link value, the low 16 bits of the next instruction's address (R160(f), R250(d), D5). -/
def linkValue (s : State) (len : Nat) : Word := BitVec.ofNat 16 (s.pc + len)

/-! ALU shapes -/

/-- `x[d] <- v`, `carry <- c`, and on to the next instruction. -/
def finishAlu (len : Nat) (d : Reg) (v : Word) (c : Bool) (s : State) : Result State :=
  advance len { writeReg s d v with carry := c }

/-- `op Rd,Ra,Rb` (R102). -/
def aluRegisters (len : Nat) (f : AluOp) (d a b : Reg) (s : State) : Result State :=
  finishAlu len d (f s.carry (readReg s a) (readReg s b)).1 (f s.carry (readReg s a) (readReg s b)).2 s

/-- `op Rd,Ra,I` (R102): `I` is a constant or a shift amount. -/
def aluImmediate (len : Nat) (f : AluOp) (d a : Reg) (I : Nat) (s : State) : Result State :=
  finishAlu len d (f s.carry (readReg s a) (immediate I)).1 (f s.carry (readReg s a) (immediate I)).2 s

/-! Load and store shapes -/

/-- `op Rd,(Ra,S)`: the load without write-back (R141, R142). -/
def loadIndexed (len : Nat) (sz : Size) (d a : Reg) (S : Int) (s : State) : Result State :=
  andThen (memRead s (addressPlus s a S).toNat sz) fun v => advance len (writeReg s d v)

/-- A load at `ea` that writes `ea` back to its base `a` (R143 to R146). Where `d = a` the parameter `SAME_REG_WRITEBACK` decides,
and the register's value is free (R140(g), entry 15). -/
def loadWriteBack (len : Nat) (sz : Size) (ea : Word) (d a : Reg) (s : State) : Result State :=
  if d = a then
    match s.cfg.sameReg with
    | .refuse => .refused (.sameRegWriteback a)
    | .free =>
      andThen (memRead s ea.toNat sz) fun _ =>
        advance len (drawn (writeReg s d (Config.sameRegLoad s.draws)))
  else
    andThen (memRead s ea.toNat sz) fun v => advance len (writeReg (writeReg s d v) a ea)

/-- `op (Rd,S),Ra`: the store without write-back (R147, R148). -/
def storeIndexed (len : Nat) (sz : Size) (d a : Reg) (S : Int) (s : State) : Result State :=
  andThen (memWrite s (addressPlus s d S).toNat sz (readReg s a)) fun t => advance len t

/-- `op (Rd+,S),Ra`: the data is the register before the write-back, also where `a = d` (R149, R150). -/
def storePost (len : Nat) (sz : Size) (d a : Reg) (S : Int) (s : State) : Result State :=
  andThen (memWrite s (addressPlus s d S).toNat sz (readReg s a)) fun t =>
    advance len (writeReg t d (addressPlus s d S))

/-- `op (-Rd,S),Ra` (R151, R152, C6). Where `d = a` the parameter `SAME_REG_WRITEBACK` decides, and whether the old or the
decremented register is stored is free (R140(g), entry 15). -/
def storePre (len : Nat) (sz : Size) (d a : Reg) (S : Int) (s : State) : Result State :=
  if d = a then
    match s.cfg.sameReg with
    | .refuse => .refused (.sameRegWriteback a)
    | .free =>
      andThen (memWrite s (addressMinus s d S).toNat sz
        (if Config.sameRegStoresOld s.draws then readReg s a else addressMinus s d S)) fun t =>
          advance len (drawn (writeReg t d (addressMinus s d S)))
  else
    andThen (memWrite s (addressMinus s d S).toNat sz (readReg s a)) fun t =>
      advance len (writeReg t d (addressMinus s d S))

/-! Branch and jump shapes -/

/-- A conditional transfer to `t` on the comparison of Ra with Rb; on to the next instruction when it does not hold (R160(c)). -/
def branchIf (len : Nat) (c : Cond) (t : Int) (a b : Reg) (s : State) : Result State :=
  if c.holds (readReg s a) (readReg s b) then goto t s else advance len s

/-- A transfer to `t` with the link in `b`; a target out of range raises before the link is written (R160(g), R162, R170). -/
def branchLink (len : Nat) (t : Int) (b : Reg) (s : State) : Result State :=
  andThen (goto t s) fun s' => .next (writeReg s' b (linkValue s len))

end Sys2Proof.Machine
end

