-- ==== Sys2Proof/Machine/Alu16.lean ====
section
/-! DEFINITION. The 16-bit ALU instructions (40_alu16.md). -/

namespace Sys2Proof.Machine

/-- `NOP Rd,I` (R121): the break halts, `NOP R0,1` only advances, every other NOP has the implementation's side effect. -/
def execNop16 (d : Reg) (I : Nat) (s : State) : Result State :=
  if d.val = 0 ∧ I = 0 then .next (halt s)
  else if d.val = 0 ∧ I = 1 then advance 1 s
  else implementationNop 1 d I s

/-- `ADD Rd,Ra,Rb` (R122). -/
def execAdd16 (d a b : Reg) (s : State) : Result State :=
  aluRegisters 1 aluAdd d a b s

/-- `SUB Rd,Ra,Rb` (R123). -/
def execSub16 (d a b : Reg) (s : State) : Result State :=
  aluRegisters 1 aluSub d a b s

/-- `AND Rd,Ra,Rb` (R124). -/
def execAnd16 (d a b : Reg) (s : State) : Result State :=
  aluRegisters 1 aluAnd d a b s

/-- `OR Rd,Ra,Rb` (R125). -/
def execOr16 (d a b : Reg) (s : State) : Result State :=
  aluRegisters 1 aluOr d a b s

/-- `XOR Rd,Ra,Rb` (R126). -/
def execXor16 (d a b : Reg) (s : State) : Result State :=
  aluRegisters 1 aluXor d a b s

/-- `ASR Rd,Ra,Rb` (R127). -/
def execAsr16 (d a b : Reg) (s : State) : Result State :=
  aluRegisters 1 aluAsr d a b s

/-- `LSL Rd,Ra,Rb` (R128). -/
def execLsl16 (d a b : Reg) (s : State) : Result State :=
  aluRegisters 1 aluLsl d a b s

/-- `LSR Rd,Ra,Rb` (R129). -/
def execLsr16 (d a b : Reg) (s : State) : Result State :=
  aluRegisters 1 aluLsr d a b s

/-- `MOV Rd,Ra` (R130). -/
def execMov16 (d a : Reg) (s : State) : Result State :=
  advance 1 (writeReg s d (readReg s a))

/-- `ADDI Rd,Ra,I` (R131). -/
def execAddi16 (d a : Reg) (I : Nat) (s : State) : Result State :=
  aluImmediate 1 aluAdd d a I s

/-- `SUBI Rd,Ra,I` (R132). -/
def execSubi16 (d a : Reg) (I : Nat) (s : State) : Result State :=
  aluImmediate 1 aluSub d a I s

/-- `ASRI Rd,Ra,I` (R133). -/
def execAsri16 (d a : Reg) (n : Nat) (s : State) : Result State :=
  aluImmediate 1 aluAsr d a n s

/-- `LSLI Rd,Ra,I` (R134). -/
def execLsli16 (d a : Reg) (n : Nat) (s : State) : Result State :=
  aluImmediate 1 aluLsl d a n s

/-- `LSRI Rd,Ra,I` (R135). -/
def execLsri16 (d a : Reg) (n : Nat) (s : State) : Result State :=
  aluImmediate 1 aluLsr d a n s

/-- `MOVI Rd,I` (R136). -/
def execMovi16 (d : Reg) (I : Nat) (s : State) : Result State :=
  advance 1 (writeReg s d (immediate I))

end Sys2Proof.Machine
end

