-- ==== Sys2Proof/Machine/Alu32.lean ====
section
/-! DEFINITION. The 32-bit ALU instructions (44_alu32.md). -/

namespace Sys2Proof.Machine

/-- `NOP Rd,I` (R201): no convention for any `d`, `I`; `pc + 2` by C8. -/
def execNop32 (d : Reg) (I : Nat) (s : State) : Result State :=
  implementationNop 2 d I s

/-- `ADD Rd,Ra,Rb` (R202). -/
def execAdd32 (d a b : Reg) (s : State) : Result State :=
  aluRegisters 2 aluAdd d a b s

/-- `SUB Rd,Ra,Rb` (R203). -/
def execSub32 (d a b : Reg) (s : State) : Result State :=
  aluRegisters 2 aluSub d a b s

/-- `AND Rd,Ra,Rb` (R204). -/
def execAnd32 (d a b : Reg) (s : State) : Result State :=
  aluRegisters 2 aluAnd d a b s

/-- `OR Rd,Ra,Rb` (R205). -/
def execOr32 (d a b : Reg) (s : State) : Result State :=
  aluRegisters 2 aluOr d a b s

/-- `XOR Rd,Ra,Rb` (R206). -/
def execXor32 (d a b : Reg) (s : State) : Result State :=
  aluRegisters 2 aluXor d a b s

/-- `ASR Rd,Ra,Rb` (R207). -/
def execAsr32 (d a b : Reg) (s : State) : Result State :=
  aluRegisters 2 aluAsr d a b s

/-- `LSL Rd,Ra,Rb` (R208). -/
def execLsl32 (d a b : Reg) (s : State) : Result State :=
  aluRegisters 2 aluLsl d a b s

/-- `LSR Rd,Ra,Rb` (R209). -/
def execLsr32 (d a b : Reg) (s : State) : Result State :=
  aluRegisters 2 aluLsr d a b s

/-- `MOV Rd,Ra` (R210). -/
def execMov32 (d a : Reg) (s : State) : Result State :=
  advance 2 (writeReg s d (readReg s a))

/-- `ADDI Rd,Ra,I` (R211). -/
def execAddi32 (d a : Reg) (I : Nat) (s : State) : Result State :=
  aluImmediate 2 aluAdd d a I s

/-- `SUBI Rd,Ra,I` (R212). -/
def execSubi32 (d a : Reg) (I : Nat) (s : State) : Result State :=
  aluImmediate 2 aluSub d a I s

/-- `ASRI Rd,Ra,I` (R213). -/
def execAsri32 (d a : Reg) (n : Nat) (s : State) : Result State :=
  aluImmediate 2 aluAsr d a n s

/-- `LSLI Rd,Ra,I` (R214). -/
def execLsli32 (d a : Reg) (n : Nat) (s : State) : Result State :=
  aluImmediate 2 aluLsl d a n s

/-- `LSRI Rd,Ra,I` (R215). -/
def execLsri32 (d a : Reg) (n : Nat) (s : State) : Result State :=
  aluImmediate 2 aluLsr d a n s

/-- `MOVI Rd,I` (R216). -/
def execMovi32 (d : Reg) (I : Nat) (s : State) : Result State :=
  advance 2 (writeReg s d (immediate I))

/-- `ADDC Rd,Ra,Rb` (R217). -/
def execAddc (d a b : Reg) (s : State) : Result State :=
  aluRegisters 2 aluAddc d a b s

/-- `SUBC Rd,Ra,Rb` (R218). -/
def execSubc (d a b : Reg) (s : State) : Result State :=
  aluRegisters 2 aluSubc d a b s

/-- `ANDI Rd,Ra,I` (R219). -/
def execAndi (d a : Reg) (I : Nat) (s : State) : Result State :=
  aluImmediate 2 aluAnd d a I s

/-- `ORI Rd,Ra,I` (R220). -/
def execOri (d a : Reg) (I : Nat) (s : State) : Result State :=
  aluImmediate 2 aluOr d a I s

/-- `XORI Rd,Ra,I` (R221). -/
def execXori (d a : Reg) (I : Nat) (s : State) : Result State :=
  aluImmediate 2 aluXor d a I s

end Sys2Proof.Machine
end

