-- ==== Sys2Proof/Machine/Branch16.lean ====
section
/-! DEFINITION. The 16-bit branches and jumps (42_branch16.md). -/

namespace Sys2Proof.Machine

/-- `BRA S` (R161). -/
def execBra16 (S : Int) (s : State) : Result State :=
  goto (relativeTarget s S) s

/-- `BAL S,Rb` (R162). -/
def execBal16 (S : Int) (b : Reg) (s : State) : Result State :=
  branchLink 1 (relativeTarget s S) b s

/-- `BEQ S,Ra,Rb` (R163). -/
def execBeq16 (S : Int) (a b : Reg) (s : State) : Result State :=
  branchIf 1 .eq (relativeTarget s S) a b s

/-- `BNE S,Ra,Rb` (R164). -/
def execBne16 (S : Int) (a b : Reg) (s : State) : Result State :=
  branchIf 1 .ne (relativeTarget s S) a b s

/-- `BLTS S,Ra,Rb` (R165). -/
def execBlts16 (S : Int) (a b : Reg) (s : State) : Result State :=
  branchIf 1 .lts (relativeTarget s S) a b s

/-- `BLES S,Ra,Rb` (R166). -/
def execBles16 (S : Int) (a b : Reg) (s : State) : Result State :=
  branchIf 1 .les (relativeTarget s S) a b s

/-- `BLTU S,Ra,Rb` (R167). -/
def execBltu16 (S : Int) (a b : Reg) (s : State) : Result State :=
  branchIf 1 .ltu (relativeTarget s S) a b s

/-- `BLEU S,Ra,Rb` (R168). -/
def execBleu16 (S : Int) (a b : Reg) (s : State) : Result State :=
  branchIf 1 .leu (relativeTarget s S) a b s

/-- `JMP Rd` (R169). -/
def execJmp16 (d : Reg) (s : State) : Result State :=
  goto (registerTarget s d) s

/-- `JAL Rd,Rb` (R170). -/
def execJal16 (d b : Reg) (s : State) : Result State :=
  branchLink 1 (registerTarget s d) b s

/-- `JEQ Rd,Ra,Rb` (R171). -/
def execJeq16 (d a b : Reg) (s : State) : Result State :=
  branchIf 1 .eq (registerTarget s d) a b s

/-- `JNE Rd,Ra,Rb` (R172). -/
def execJne16 (d a b : Reg) (s : State) : Result State :=
  branchIf 1 .ne (registerTarget s d) a b s

/-- `JLTS Rd,Ra,Rb` (R173). -/
def execJlts16 (d a b : Reg) (s : State) : Result State :=
  branchIf 1 .lts (registerTarget s d) a b s

/-- `JLES Rd,Ra,Rb` (R174). -/
def execJles16 (d a b : Reg) (s : State) : Result State :=
  branchIf 1 .les (registerTarget s d) a b s

/-- `JLTU Rd,Ra,Rb` (R175). -/
def execJltu16 (d a b : Reg) (s : State) : Result State :=
  branchIf 1 .ltu (registerTarget s d) a b s

/-- `JLEU Rd,Ra,Rb` (R176). -/
def execJleu16 (d a b : Reg) (s : State) : Result State :=
  branchIf 1 .leu (registerTarget s d) a b s

end Sys2Proof.Machine
end

