-- ==== Sys2Proof/Machine/Branch32.lean ====
section
/-! DEFINITION. The 32-bit branches, jumps and long jumps (46_branch32.md). -/

namespace Sys2Proof.Machine

/-- `BRA S` (R252). -/
def execBra32 (S : Int) (s : State) : Result State :=
  goto (relativeTarget s S) s

/-- `BAL S,Rb` (R253). -/
def execBal32 (S : Int) (b : Reg) (s : State) : Result State :=
  branchLink 2 (relativeTarget s S) b s

/-- `BEQ S,Ra,Rb` (R254). -/
def execBeq32 (S : Int) (a b : Reg) (s : State) : Result State :=
  branchIf 2 .eq (relativeTarget s S) a b s

/-- `BNE S,Ra,Rb` (R255). -/
def execBne32 (S : Int) (a b : Reg) (s : State) : Result State :=
  branchIf 2 .ne (relativeTarget s S) a b s

/-- `BLTS S,Ra,Rb` (R256). -/
def execBlts32 (S : Int) (a b : Reg) (s : State) : Result State :=
  branchIf 2 .lts (relativeTarget s S) a b s

/-- `BLES S,Ra,Rb` (R257). -/
def execBles32 (S : Int) (a b : Reg) (s : State) : Result State :=
  branchIf 2 .les (relativeTarget s S) a b s

/-- `BLTU S,Ra,Rb` (R258). -/
def execBltu32 (S : Int) (a b : Reg) (s : State) : Result State :=
  branchIf 2 .ltu (relativeTarget s S) a b s

/-- `BLEU S,Ra,Rb` (R259). -/
def execBleu32 (S : Int) (a b : Reg) (s : State) : Result State :=
  branchIf 2 .leu (relativeTarget s S) a b s

/-- `JMP Rd` (R260). -/
def execJmp32 (d : Reg) (s : State) : Result State :=
  goto (registerTarget s d) s

/-- `JAL Rd,Rb` (R261). -/
def execJal32 (d b : Reg) (s : State) : Result State :=
  branchLink 2 (registerTarget s d) b s

/-- `JEQ Rd,Ra,Rb` (R262). -/
def execJeq32 (d a b : Reg) (s : State) : Result State :=
  branchIf 2 .eq (registerTarget s d) a b s

/-- `JNE Rd,Ra,Rb` (R263). -/
def execJne32 (d a b : Reg) (s : State) : Result State :=
  branchIf 2 .ne (registerTarget s d) a b s

/-- `JLTS Rd,Ra,Rb` (R264). -/
def execJlts32 (d a b : Reg) (s : State) : Result State :=
  branchIf 2 .lts (registerTarget s d) a b s

/-- `JLES Rd,Ra,Rb` (R265). -/
def execJles32 (d a b : Reg) (s : State) : Result State :=
  branchIf 2 .les (registerTarget s d) a b s

/-- `JLTU Rd,Ra,Rb` (R266). -/
def execJltu32 (d a b : Reg) (s : State) : Result State :=
  branchIf 2 .ltu (registerTarget s d) a b s

/-- `JLEU Rd,Ra,Rb` (R267). -/
def execJleu32 (d a b : Reg) (s : State) : Result State :=
  branchIf 2 .leu (registerTarget s d) a b s

/-- `JMPL Rd` (R268). -/
def execJmpl (d : Reg) (s : State) : Result State :=
  goto (pairTarget s d) s

/-- `JALL Rd,Rb` (R269). -/
def execJall (d b : Reg) (s : State) : Result State :=
  branchLink 2 (pairTarget s d) b s

/-- `JEQL Rd,Ra,Rb` (R270). -/
def execJeql (d a b : Reg) (s : State) : Result State :=
  branchIf 2 .eq (pairTarget s d) a b s

/-- `JNEL Rd,Ra,Rb` (R271). -/
def execJnel (d a b : Reg) (s : State) : Result State :=
  branchIf 2 .ne (pairTarget s d) a b s

/-- `JLTSL Rd,Ra,Rb` (R272). -/
def execJltsl (d a b : Reg) (s : State) : Result State :=
  branchIf 2 .lts (pairTarget s d) a b s

/-- `JLESL Rd,Ra,Rb` (R273). -/
def execJlesl (d a b : Reg) (s : State) : Result State :=
  branchIf 2 .les (pairTarget s d) a b s

/-- `JLTUL Rd,Ra,Rb` (R274). -/
def execJltul (d a b : Reg) (s : State) : Result State :=
  branchIf 2 .ltu (pairTarget s d) a b s

/-- `JLEUL Rd,Ra,Rb` (R275). -/
def execJleul (d a b : Reg) (s : State) : Result State :=
  branchIf 2 .leu (pairTarget s d) a b s

end Sys2Proof.Machine
end

