-- ==== Sys2Proof/Machine/LoadStore16.lean ====
section
/-! DEFINITION. The 16-bit loads and stores (41_loadstore16.md). -/

namespace Sys2Proof.Machine

/-- `LDB Rd,(Ra,S)` (R141). -/
def execLdb16 (d a : Reg) (S : Int) (s : State) : Result State :=
  loadIndexed 1 .byte d a S s

/-- `LDW Rd,(Ra,S)` (R142). -/
def execLdw16 (d a : Reg) (S : Int) (s : State) : Result State :=
  loadIndexed 1 .word d a S s

/-- `LDB Rd,(Ra+,S)` (R143). -/
def execLdbPost16 (d a : Reg) (S : Int) (s : State) : Result State :=
  loadWriteBack 1 .byte (addressPlus s a S) d a s

/-- `LDW Rd,(Ra+,S)` (R144). -/
def execLdwPost16 (d a : Reg) (S : Int) (s : State) : Result State :=
  loadWriteBack 1 .word (addressPlus s a S) d a s

/-- `LDB Rd,(-Ra,S)` (R145). -/
def execLdbPre16 (d a : Reg) (S : Int) (s : State) : Result State :=
  loadWriteBack 1 .byte (addressMinus s a S) d a s

/-- `LDW Rd,(-Ra,S)` (R146). -/
def execLdwPre16 (d a : Reg) (S : Int) (s : State) : Result State :=
  loadWriteBack 1 .word (addressMinus s a S) d a s

/-- `STB (Rd,S),Ra` (R147). -/
def execStb16 (d a : Reg) (S : Int) (s : State) : Result State :=
  storeIndexed 1 .byte d a S s

/-- `STW (Rd,S),Ra` (R148). -/
def execStw16 (d a : Reg) (S : Int) (s : State) : Result State :=
  storeIndexed 1 .word d a S s

/-- `STB (Rd+,S),Ra` (R149). -/
def execStbPost16 (d a : Reg) (S : Int) (s : State) : Result State :=
  storePost 1 .byte d a S s

/-- `STW (Rd+,S),Ra` (R150). -/
def execStwPost16 (d a : Reg) (S : Int) (s : State) : Result State :=
  storePost 1 .word d a S s

/-- `STB (-Rd,S),Ra` (R151). -/
def execStbPre16 (d a : Reg) (S : Int) (s : State) : Result State :=
  storePre 1 .byte d a S s

/-- `STW (-Rd,S),Ra` (R152). -/
def execStwPre16 (d a : Reg) (S : Int) (s : State) : Result State :=
  storePre 1 .word d a S s

end Sys2Proof.Machine
end

