-- ==== Sys2Proof/Machine/LoadStore32.lean ====
section
/-! DEFINITION. The 32-bit loads and stores (45_loadstore32.md). -/

namespace Sys2Proof.Machine

/-- `LDB Rd,(Ra,S)` (R231). -/
def execLdb32 (d a : Reg) (S : Int) (s : State) : Result State :=
  loadIndexed 2 .byte d a S s

/-- `LDW Rd,(Ra,S)` (R232). -/
def execLdw32 (d a : Reg) (S : Int) (s : State) : Result State :=
  loadIndexed 2 .word d a S s

/-- `LDB Rd,(Ra+,S)` (R233). -/
def execLdbPost32 (d a : Reg) (S : Int) (s : State) : Result State :=
  loadWriteBack 2 .byte (addressPlus s a S) d a s

/-- `LDW Rd,(Ra+,S)` (R234). -/
def execLdwPost32 (d a : Reg) (S : Int) (s : State) : Result State :=
  loadWriteBack 2 .word (addressPlus s a S) d a s

/-- `LDB Rd,(-Ra,S)` (R235). -/
def execLdbPre32 (d a : Reg) (S : Int) (s : State) : Result State :=
  loadWriteBack 2 .byte (addressMinus s a S) d a s

/-- `LDW Rd,(-Ra,S)` (R236). -/
def execLdwPre32 (d a : Reg) (S : Int) (s : State) : Result State :=
  loadWriteBack 2 .word (addressMinus s a S) d a s

/-- `STB (Rd,S),Ra` (R237). -/
def execStb32 (d a : Reg) (S : Int) (s : State) : Result State :=
  storeIndexed 2 .byte d a S s

/-- `STW (Rd,S),Ra` (R238). -/
def execStw32 (d a : Reg) (S : Int) (s : State) : Result State :=
  storeIndexed 2 .word d a S s

/-- `STB (Rd+,S),Ra` (R239). -/
def execStbPost32 (d a : Reg) (S : Int) (s : State) : Result State :=
  storePost 2 .byte d a S s

/-- `STW (Rd+,S),Ra` (R240). -/
def execStwPost32 (d a : Reg) (S : Int) (s : State) : Result State :=
  storePost 2 .word d a S s

/-- `STB (-Rd,S),Ra` (R241). -/
def execStbPre32 (d a : Reg) (S : Int) (s : State) : Result State :=
  storePre 2 .byte d a S s

/-- `STW (-Rd,S),Ra` (R242). -/
def execStwPre32 (d a : Reg) (S : Int) (s : State) : Result State :=
  storePre 2 .word d a S s

end Sys2Proof.Machine
end

