-- ==== Sys2Proof/Machine/Misc16.lean ====
section
/-! DEFINITION. The 16-bit miscellaneous instruction (43_misc16.md). -/

namespace Sys2Proof.Machine

/-- `RTE Rd` (R190): the partial outcome. -/
def execRte (d : Reg) (s : State) : Result State :=
  returnFromException d s

end Sys2Proof.Machine
end

