-- ==== Sys2Proof/Machine/Dispatch.lean ====
section
/-! DEFINITION. The meaning of every instruction, one arm each. -/

namespace Sys2Proof.Machine

/-- The effect of one instruction, after its words are decoded and its register fields checked (R28). -/
def exec (i : Instr) (s : State) : Host.Outcome State Fault Refusal :=
  match i with
  | .nop16 d I => Sys2Proof.Machine.execNop16 d I s
  | .add16 d a b => Sys2Proof.Machine.execAdd16 d a b s
  | .sub16 d a b => Sys2Proof.Machine.execSub16 d a b s
  | .and16 d a b => Sys2Proof.Machine.execAnd16 d a b s
  | .or16 d a b => Sys2Proof.Machine.execOr16 d a b s
  | .xor16 d a b => Sys2Proof.Machine.execXor16 d a b s
  | .asr16 d a b => Sys2Proof.Machine.execAsr16 d a b s
  | .lsl16 d a b => Sys2Proof.Machine.execLsl16 d a b s
  | .lsr16 d a b => Sys2Proof.Machine.execLsr16 d a b s
  | .mov16 d a => Sys2Proof.Machine.execMov16 d a s
  | .addi16 d a I => Sys2Proof.Machine.execAddi16 d a I s
  | .subi16 d a I => Sys2Proof.Machine.execSubi16 d a I s
  | .asri16 d a n => Sys2Proof.Machine.execAsri16 d a n s
  | .lsli16 d a n => Sys2Proof.Machine.execLsli16 d a n s
  | .lsri16 d a n => Sys2Proof.Machine.execLsri16 d a n s
  | .movi16 d I => Sys2Proof.Machine.execMovi16 d I s
  | .ldb16 d a S => Sys2Proof.Machine.execLdb16 d a S s
  | .ldw16 d a S => Sys2Proof.Machine.execLdw16 d a S s
  | .ldbPost16 d a S => Sys2Proof.Machine.execLdbPost16 d a S s
  | .ldwPost16 d a S => Sys2Proof.Machine.execLdwPost16 d a S s
  | .ldbPre16 d a S => Sys2Proof.Machine.execLdbPre16 d a S s
  | .ldwPre16 d a S => Sys2Proof.Machine.execLdwPre16 d a S s
  | .stb16 d a S => Sys2Proof.Machine.execStb16 d a S s
  | .stw16 d a S => Sys2Proof.Machine.execStw16 d a S s
  | .stbPost16 d a S => Sys2Proof.Machine.execStbPost16 d a S s
  | .stwPost16 d a S => Sys2Proof.Machine.execStwPost16 d a S s
  | .stbPre16 d a S => Sys2Proof.Machine.execStbPre16 d a S s
  | .stwPre16 d a S => Sys2Proof.Machine.execStwPre16 d a S s
  | .bra16 S => Sys2Proof.Machine.execBra16 S s
  | .bal16 S b => Sys2Proof.Machine.execBal16 S b s
  | .beq16 S a b => Sys2Proof.Machine.execBeq16 S a b s
  | .bne16 S a b => Sys2Proof.Machine.execBne16 S a b s
  | .blts16 S a b => Sys2Proof.Machine.execBlts16 S a b s
  | .bles16 S a b => Sys2Proof.Machine.execBles16 S a b s
  | .bltu16 S a b => Sys2Proof.Machine.execBltu16 S a b s
  | .bleu16 S a b => Sys2Proof.Machine.execBleu16 S a b s
  | .jmp16 d => Sys2Proof.Machine.execJmp16 d s
  | .jal16 d b => Sys2Proof.Machine.execJal16 d b s
  | .jeq16 d a b => Sys2Proof.Machine.execJeq16 d a b s
  | .jne16 d a b => Sys2Proof.Machine.execJne16 d a b s
  | .jlts16 d a b => Sys2Proof.Machine.execJlts16 d a b s
  | .jles16 d a b => Sys2Proof.Machine.execJles16 d a b s
  | .jltu16 d a b => Sys2Proof.Machine.execJltu16 d a b s
  | .jleu16 d a b => Sys2Proof.Machine.execJleu16 d a b s
  | .rte d => Sys2Proof.Machine.execRte d s
  | .nop32 d I => Sys2Proof.Machine.execNop32 d I s
  | .add32 d a b => Sys2Proof.Machine.execAdd32 d a b s
  | .sub32 d a b => Sys2Proof.Machine.execSub32 d a b s
  | .and32 d a b => Sys2Proof.Machine.execAnd32 d a b s
  | .or32 d a b => Sys2Proof.Machine.execOr32 d a b s
  | .xor32 d a b => Sys2Proof.Machine.execXor32 d a b s
  | .asr32 d a b => Sys2Proof.Machine.execAsr32 d a b s
  | .lsl32 d a b => Sys2Proof.Machine.execLsl32 d a b s
  | .lsr32 d a b => Sys2Proof.Machine.execLsr32 d a b s
  | .mov32 d a => Sys2Proof.Machine.execMov32 d a s
  | .addi32 d a I => Sys2Proof.Machine.execAddi32 d a I s
  | .subi32 d a I => Sys2Proof.Machine.execSubi32 d a I s
  | .asri32 d a n => Sys2Proof.Machine.execAsri32 d a n s
  | .lsli32 d a n => Sys2Proof.Machine.execLsli32 d a n s
  | .lsri32 d a n => Sys2Proof.Machine.execLsri32 d a n s
  | .movi32 d I => Sys2Proof.Machine.execMovi32 d I s
  | .addc d a b => Sys2Proof.Machine.execAddc d a b s
  | .subc d a b => Sys2Proof.Machine.execSubc d a b s
  | .andi d a I => Sys2Proof.Machine.execAndi d a I s
  | .ori d a I => Sys2Proof.Machine.execOri d a I s
  | .xori d a I => Sys2Proof.Machine.execXori d a I s
  | .ldb32 d a S => Sys2Proof.Machine.execLdb32 d a S s
  | .ldw32 d a S => Sys2Proof.Machine.execLdw32 d a S s
  | .ldbPost32 d a S => Sys2Proof.Machine.execLdbPost32 d a S s
  | .ldwPost32 d a S => Sys2Proof.Machine.execLdwPost32 d a S s
  | .ldbPre32 d a S => Sys2Proof.Machine.execLdbPre32 d a S s
  | .ldwPre32 d a S => Sys2Proof.Machine.execLdwPre32 d a S s
  | .stb32 d a S => Sys2Proof.Machine.execStb32 d a S s
  | .stw32 d a S => Sys2Proof.Machine.execStw32 d a S s
  | .stbPost32 d a S => Sys2Proof.Machine.execStbPost32 d a S s
  | .stwPost32 d a S => Sys2Proof.Machine.execStwPost32 d a S s
  | .stbPre32 d a S => Sys2Proof.Machine.execStbPre32 d a S s
  | .stwPre32 d a S => Sys2Proof.Machine.execStwPre32 d a S s
  | .bra32 S => Sys2Proof.Machine.execBra32 S s
  | .bal32 S b => Sys2Proof.Machine.execBal32 S b s
  | .beq32 S a b => Sys2Proof.Machine.execBeq32 S a b s
  | .bne32 S a b => Sys2Proof.Machine.execBne32 S a b s
  | .blts32 S a b => Sys2Proof.Machine.execBlts32 S a b s
  | .bles32 S a b => Sys2Proof.Machine.execBles32 S a b s
  | .bltu32 S a b => Sys2Proof.Machine.execBltu32 S a b s
  | .bleu32 S a b => Sys2Proof.Machine.execBleu32 S a b s
  | .jmp32 d => Sys2Proof.Machine.execJmp32 d s
  | .jal32 d b => Sys2Proof.Machine.execJal32 d b s
  | .jeq32 d a b => Sys2Proof.Machine.execJeq32 d a b s
  | .jne32 d a b => Sys2Proof.Machine.execJne32 d a b s
  | .jlts32 d a b => Sys2Proof.Machine.execJlts32 d a b s
  | .jles32 d a b => Sys2Proof.Machine.execJles32 d a b s
  | .jltu32 d a b => Sys2Proof.Machine.execJltu32 d a b s
  | .jleu32 d a b => Sys2Proof.Machine.execJleu32 d a b s
  | .jmpl d => Sys2Proof.Machine.execJmpl d s
  | .jall d b => Sys2Proof.Machine.execJall d b s
  | .jeql d a b => Sys2Proof.Machine.execJeql d a b s
  | .jnel d a b => Sys2Proof.Machine.execJnel d a b s
  | .jltsl d a b => Sys2Proof.Machine.execJltsl d a b s
  | .jlesl d a b => Sys2Proof.Machine.execJlesl d a b s
  | .jltul d a b => Sys2Proof.Machine.execJltul d a b s
  | .jleul d a b => Sys2Proof.Machine.execJleul d a b s

end Sys2Proof.Machine
end

