-- ==== Sys2Proof/WellFormed.lean ====
section
/-! DEFINITION. When a term of `Instr` has operands its encoding can hold (R89 to R92, R251). -/

namespace Sys2Proof

/-- A register a 3-bit field names: R0 to R7 (R21, R89). -/
def lowReg (r : Reg) : Bool := decide (r.val < 8)

/-- An unsigned constant of `k` bits (R90). -/
def unsignedFits (k I : Nat) : Bool := decide (I < 2 ^ k)

/-- A signed constant of `k` bits, two's complement (R91). -/
def signedFits (k : Nat) (S : Int) : Bool := decide (-(2 ^ (k - 1)) ≤ S ∧ S < 2 ^ (k - 1))

/-- A shift amount whose field has `k` bits and holds the amount minus one (R92). -/
def shiftFits (k n : Nat) : Bool := decide (1 ≤ n ∧ n ≤ 2 ^ k)

/-- The even register of a long jump's pair (R251, C5). -/
def evenReg (d : Reg) : Bool := decide (d.val % 2 = 0)

/-- The operands of `i` are ones its encoding can hold. -/
def Instr.wf : Instr → Bool
  | .nop16 d I => lowReg d && unsignedFits 6 I
  | .add16 d a b => lowReg d && lowReg a && lowReg b
  | .sub16 d a b => lowReg d && lowReg a && lowReg b
  | .and16 d a b => lowReg d && lowReg a && lowReg b
  | .or16 d a b => lowReg d && lowReg a && lowReg b
  | .xor16 d a b => lowReg d && lowReg a && lowReg b
  | .asr16 d a b => lowReg d && lowReg a && lowReg b
  | .lsl16 d a b => lowReg d && lowReg a && lowReg b
  | .lsr16 d a b => lowReg d && lowReg a && lowReg b
  | .mov16 d a => lowReg d && lowReg a
  | .addi16 d a I => lowReg d && lowReg a && unsignedFits 3 I
  | .subi16 d a I => lowReg d && lowReg a && unsignedFits 3 I
  | .asri16 d a n => lowReg d && lowReg a && shiftFits 3 n
  | .lsli16 d a n => lowReg d && lowReg a && shiftFits 3 n
  | .lsri16 d a n => lowReg d && lowReg a && shiftFits 3 n
  | .movi16 d I => lowReg d && unsignedFits 6 I
  | .ldb16 d a S => lowReg d && lowReg a && signedFits 3 S
  | .ldw16 d a S => lowReg d && lowReg a && signedFits 3 S
  | .ldbPost16 d a S => lowReg d && lowReg a && signedFits 3 S
  | .ldwPost16 d a S => lowReg d && lowReg a && signedFits 3 S
  | .ldbPre16 d a S => lowReg d && lowReg a && signedFits 3 S
  | .ldwPre16 d a S => lowReg d && lowReg a && signedFits 3 S
  | .stb16 d a S => lowReg d && lowReg a && signedFits 3 S
  | .stw16 d a S => lowReg d && lowReg a && signedFits 3 S
  | .stbPost16 d a S => lowReg d && lowReg a && signedFits 3 S
  | .stwPost16 d a S => lowReg d && lowReg a && signedFits 3 S
  | .stbPre16 d a S => lowReg d && lowReg a && signedFits 3 S
  | .stwPre16 d a S => lowReg d && lowReg a && signedFits 3 S
  | .bra16 S => signedFits 9 S
  | .bal16 S b => lowReg b && signedFits 6 S
  | .beq16 S a b => lowReg a && lowReg b && signedFits 3 S
  | .bne16 S a b => lowReg a && lowReg b && signedFits 3 S
  | .blts16 S a b => lowReg a && lowReg b && signedFits 3 S
  | .bles16 S a b => lowReg a && lowReg b && signedFits 3 S
  | .bltu16 S a b => lowReg a && lowReg b && signedFits 3 S
  | .bleu16 S a b => lowReg a && lowReg b && signedFits 3 S
  | .jmp16 d => lowReg d
  | .jal16 d b => lowReg d && lowReg b
  | .jeq16 d a b => lowReg d && lowReg a && lowReg b
  | .jne16 d a b => lowReg d && lowReg a && lowReg b
  | .jlts16 d a b => lowReg d && lowReg a && lowReg b
  | .jles16 d a b => lowReg d && lowReg a && lowReg b
  | .jltu16 d a b => lowReg d && lowReg a && lowReg b
  | .jleu16 d a b => lowReg d && lowReg a && lowReg b
  | .rte d => lowReg d
  | .nop32 _ I => unsignedFits 12 I
  | .add32 _ _ _ => true
  | .sub32 _ _ _ => true
  | .and32 _ _ _ => true
  | .or32 _ _ _ => true
  | .xor32 _ _ _ => true
  | .asr32 _ _ _ => true
  | .lsl32 _ _ _ => true
  | .lsr32 _ _ _ => true
  | .mov32 _ _ => true
  | .addi32 _ _ I => unsignedFits 10 I
  | .subi32 _ _ I => unsignedFits 10 I
  | .asri32 _ _ n => shiftFits 6 n
  | .lsli32 _ _ n => shiftFits 6 n
  | .lsri32 _ _ n => shiftFits 6 n
  | .movi32 _ I => unsignedFits 16 I
  | .addc _ _ _ => true
  | .subc _ _ _ => true
  | .andi _ _ I => unsignedFits 9 I
  | .ori _ _ I => unsignedFits 9 I
  | .xori _ _ I => unsignedFits 9 I
  | .ldb32 _ _ S => signedFits 10 S
  | .ldw32 _ _ S => signedFits 10 S
  | .ldbPost32 _ _ S => signedFits 10 S
  | .ldwPost32 _ _ S => signedFits 10 S
  | .ldbPre32 _ _ S => signedFits 10 S
  | .ldwPre32 _ _ S => signedFits 10 S
  | .stb32 _ _ S => signedFits 10 S
  | .stw32 _ _ S => signedFits 10 S
  | .stbPost32 _ _ S => signedFits 10 S
  | .stwPost32 _ _ S => signedFits 10 S
  | .stbPre32 _ _ S => signedFits 10 S
  | .stwPre32 _ _ S => signedFits 10 S
  | .bra32 S => signedFits 22 S
  | .bal32 S _ => signedFits 16 S
  | .beq32 S _ _ => signedFits 10 S
  | .bne32 S _ _ => signedFits 10 S
  | .blts32 S _ _ => signedFits 10 S
  | .bles32 S _ _ => signedFits 10 S
  | .bltu32 S _ _ => signedFits 10 S
  | .bleu32 S _ _ => signedFits 10 S
  | .jmp32 _ => true
  | .jal32 _ _ => true
  | .jeq32 _ _ _ => true
  | .jne32 _ _ _ => true
  | .jlts32 _ _ _ => true
  | .jles32 _ _ _ => true
  | .jltu32 _ _ _ => true
  | .jleu32 _ _ _ => true
  | .jmpl d => evenReg d
  | .jall d _ => evenReg d
  | .jeql d _ _ => evenReg d
  | .jnel d _ _ => evenReg d
  | .jltsl d _ _ => evenReg d
  | .jlesl d _ _ => evenReg d
  | .jltul d _ _ => evenReg d
  | .jleul d _ _ => evenReg d

end Sys2Proof
end

