-- ==== Sys2Proof/Decode.lean ====
section
/-! DEFINITION. The decoder of 30_encoding.md (R70, R89 to R99), total on any words and rejecting by name, and after it the encoder,
written from the formats R72 to R88. -/

namespace Sys2Proof

/-- Why a list of words is no instruction: the clauses of R99, and the two ways in which words are missing. -/
inductive Illegal where
  /-- There is no first word. -/
  | noWord
  /-- The first word has bit 15 set and there is no second (R70). -/
  | noSecondWord
  /-- R99(a): a 16-bit class 01 word with `w0[10:9] = 11`, or class 11 with an opcode other than 0000. -/
  | opcode16
  /-- R99(b): a must-be-zero field of a 16-bit word is not zero. -/
  | mustBeZero16
  /-- R99(c), R71: `w1[15] = 1`, the mark of an instruction longer than 32 bits. -/
  | longerThan32
  /-- R99(c): `w1[14:13]` is not 00. -/
  | secondWordClass
  /-- R99(c), R290: a 32-bit class 11 first word, or class 01 with `w0[10:9] = 11`. -/
  | opcode32
  /-- R99(d): `w1[12:9]` selects nothing. -/
  | opcodeExtension
  /-- R99(e): a must-be-zero field of either word is not zero. -/
  | mustBeZero32
  /-- R99(f): a long jump with an odd `d`. -/
  | oddPair
deriving DecidableEq, Repr

/-- `w[lo+n-1:lo]`, the `n` bits of `w` from bit `lo` up (R5). -/
def bits (w : Word) (lo n : Nat) : Nat := w.toNat / 2 ^ lo % 2 ^ n

/-- Bit 15 of a first word: the instruction has a second word (R70). -/
def isLong (w : Word) : Bool := decide (bits w 15 1 = 1)

/-- A 3-bit register field at bit `lo` of a 16-bit instruction (R89). -/
def reg3 (w : Word) (lo : Nat) : Reg := Fin.ofNat 64 (bits w lo 3)

/-- A 6-bit register field: the high half from `w1`, the low half from `w0`, at the same bit positions (R89). -/
def reg6 (w0 w1 : Word) (lo : Nat) : Reg := Fin.ofNat 64 (bits w1 lo 3 * 8 + bits w0 lo 3)

/-- A 6-bit constant: `(w1[2:0], w0[2:0])`, high part first (formats 9, 10, 11, 13; R90, R91). -/
def low6 (w0 w1 : Word) : Nat := bits w1 0 3 * 8 + bits w0 0 3

/-- `s_m(v)`: the signed reading of an `m`-bit value (R6). -/
def signed (m v : Nat) : Int := if v < 2 ^ (m - 1) then (v : Int) else (v : Int) - 2 ^ m

/-- The 16-bit opcode map (R94), by class and opcode `w[14:9]`; a word with bit 15 clear. -/
def decode16 (w : Word) : Except Illegal Instr :=
  let d := reg3 w 6
  let a := reg3 w 3
  let b := reg3 w 0
  match bits w 9 6 with
  | 0 => .ok (.nop16 d (bits w 0 6))
  | 1 => .ok (.add16 d a b)
  | 2 => .ok (.sub16 d a b)
  | 3 => .ok (.and16 d a b)
  | 4 => .ok (.or16 d a b)
  | 5 => .ok (.xor16 d a b)
  | 6 => .ok (.asr16 d a b)
  | 7 => .ok (.lsl16 d a b)
  | 8 => .ok (.lsr16 d a b)
  | 9 => if bits w 0 3 = 0 then .ok (.mov16 d a) else .error .mustBeZero16
  | 10 => .ok (.addi16 d a (bits w 0 3))
  | 11 => .ok (.subi16 d a (bits w 0 3))
  | 12 => .ok (.asri16 d a (bits w 0 3 + 1))
  | 13 => .ok (.lsli16 d a (bits w 0 3 + 1))
  | 14 => .ok (.lsri16 d a (bits w 0 3 + 1))
  | 15 => .ok (.movi16 d (bits w 0 6))
  | 16 => .ok (.ldb16 d a (signed 3 (bits w 0 3)))
  | 17 => .ok (.ldbPost16 d a (signed 3 (bits w 0 3)))
  | 18 => .ok (.ldbPre16 d a (signed 3 (bits w 0 3)))
  | 20 => .ok (.ldw16 d a (signed 3 (bits w 0 3)))
  | 21 => .ok (.ldwPost16 d a (signed 3 (bits w 0 3)))
  | 22 => .ok (.ldwPre16 d a (signed 3 (bits w 0 3)))
  | 24 => .ok (.stb16 d a (signed 3 (bits w 0 3)))
  | 25 => .ok (.stbPost16 d a (signed 3 (bits w 0 3)))
  | 26 => .ok (.stbPre16 d a (signed 3 (bits w 0 3)))
  | 28 => .ok (.stw16 d a (signed 3 (bits w 0 3)))
  | 29 => .ok (.stwPost16 d a (signed 3 (bits w 0 3)))
  | 30 => .ok (.stwPre16 d a (signed 3 (bits w 0 3)))
  | 32 => .ok (.bra16 (signed 9 (bits w 0 9)))
  | 33 => .ok (.bal16 (signed 6 (bits w 3 6)) b)
  | 34 => .ok (.beq16 (signed 3 (bits w 6 3)) a b)
  | 35 => .ok (.bne16 (signed 3 (bits w 6 3)) a b)
  | 36 => .ok (.blts16 (signed 3 (bits w 6 3)) a b)
  | 37 => .ok (.bles16 (signed 3 (bits w 6 3)) a b)
  | 38 => .ok (.bltu16 (signed 3 (bits w 6 3)) a b)
  | 39 => .ok (.bleu16 (signed 3 (bits w 6 3)) a b)
  | 40 => if bits w 0 6 = 0 then .ok (.jmp16 d) else .error .mustBeZero16
  | 41 => if bits w 3 3 = 0 then .ok (.jal16 d b) else .error .mustBeZero16
  | 42 => .ok (.jeq16 d a b)
  | 43 => .ok (.jne16 d a b)
  | 44 => .ok (.jlts16 d a b)
  | 45 => .ok (.jles16 d a b)
  | 46 => .ok (.jltu16 d a b)
  | 47 => .ok (.jleu16 d a b)
  | 48 => if bits w 0 6 = 0 then .ok (.rte d) else .error .mustBeZero16
  | _ => .error .opcode16

/-- The 32-bit opcode map (R95), by `w0[14:9]` and `w1[12:9]`; a pair whose first word has bit 15 set. -/
def decode32 (w0 w1 : Word) : Except Illegal Instr :=
  let d := reg6 w0 w1 6
  let a := reg6 w0 w1 3
  let b := reg6 w0 w1 0
  let x := bits w1 9 4
  if bits w1 15 1 = 1 then .error .longerThan32
  else if bits w1 13 2 ≠ 0 then .error .secondWordClass
  else match bits w0 9 6 with
  | 0 => if x = 0 then .ok (.nop32 d (bits w1 0 6 * 64 + bits w0 0 6)) else .error .opcodeExtension
  | 1 => if x = 0 then .ok (.add32 d a b)
    else if x = 1 then .ok (.addc d a b)
    else .error .opcodeExtension
  | 2 => if x = 0 then .ok (.sub32 d a b)
    else if x = 1 then .ok (.subc d a b)
    else .error .opcodeExtension
  | 3 => if x = 0 then .ok (.and32 d a b)
    else if x % 2 = 1 then .ok (.andi d a (x / 2 * 64 + low6 w0 w1))
    else .error .opcodeExtension
  | 4 => if x = 0 then .ok (.or32 d a b)
    else if x % 2 = 1 then .ok (.ori d a (x / 2 * 64 + low6 w0 w1))
    else .error .opcodeExtension
  | 5 => if x = 0 then .ok (.xor32 d a b)
    else if x % 2 = 1 then .ok (.xori d a (x / 2 * 64 + low6 w0 w1))
    else .error .opcodeExtension
  | 6 => if x = 0 then .ok (.asr32 d a b) else .error .opcodeExtension
  | 7 => if x = 0 then .ok (.lsl32 d a b) else .error .opcodeExtension
  | 8 => if x = 0 then .ok (.lsr32 d a b) else .error .opcodeExtension
  | 9 => if x = 0 then (if bits w0 0 3 = 0 ∧ bits w1 0 3 = 0 then .ok (.mov32 d a) else .error .mustBeZero32) else .error .opcodeExtension
  | 10 => .ok (.addi32 d a (x * 64 + low6 w0 w1))
  | 11 => .ok (.subi32 d a (x * 64 + low6 w0 w1))
  | 12 => if x = 0 then .ok (.asri32 d a (low6 w0 w1 + 1)) else .error .opcodeExtension
  | 13 => if x = 0 then .ok (.lsli32 d a (low6 w0 w1 + 1)) else .error .opcodeExtension
  | 14 => if x = 0 then .ok (.lsri32 d a (low6 w0 w1 + 1)) else .error .opcodeExtension
  | 15 => .ok (.movi32 d (x * 4096 + bits w1 0 6 * 64 + bits w0 0 6))
  | 16 => .ok (.ldb32 d a (signed 10 (x * 64 + low6 w0 w1)))
  | 17 => .ok (.ldbPost32 d a (signed 10 (x * 64 + low6 w0 w1)))
  | 18 => .ok (.ldbPre32 d a (signed 10 (x * 64 + low6 w0 w1)))
  | 20 => .ok (.ldw32 d a (signed 10 (x * 64 + low6 w0 w1)))
  | 21 => .ok (.ldwPost32 d a (signed 10 (x * 64 + low6 w0 w1)))
  | 22 => .ok (.ldwPre32 d a (signed 10 (x * 64 + low6 w0 w1)))
  | 24 => .ok (.stb32 d a (signed 10 (x * 64 + low6 w0 w1)))
  | 25 => .ok (.stbPost32 d a (signed 10 (x * 64 + low6 w0 w1)))
  | 26 => .ok (.stbPre32 d a (signed 10 (x * 64 + low6 w0 w1)))
  | 28 => .ok (.stw32 d a (signed 10 (x * 64 + low6 w0 w1)))
  | 29 => .ok (.stwPost32 d a (signed 10 (x * 64 + low6 w0 w1)))
  | 30 => .ok (.stwPre32 d a (signed 10 (x * 64 + low6 w0 w1)))
  | 32 => .ok (.bra32 (signed 22 (bits w1 0 13 * 512 + bits w0 0 9)))
  | 33 => .ok (.bal32 (signed 16 (bits w1 3 10 * 64 + bits w0 3 6)) b)
  | 34 => .ok (.beq32 (signed 10 (bits w1 6 7 * 8 + bits w0 6 3)) a b)
  | 35 => .ok (.bne32 (signed 10 (bits w1 6 7 * 8 + bits w0 6 3)) a b)
  | 36 => .ok (.blts32 (signed 10 (bits w1 6 7 * 8 + bits w0 6 3)) a b)
  | 37 => .ok (.bles32 (signed 10 (bits w1 6 7 * 8 + bits w0 6 3)) a b)
  | 38 => .ok (.bltu32 (signed 10 (bits w1 6 7 * 8 + bits w0 6 3)) a b)
  | 39 => .ok (.bleu32 (signed 10 (bits w1 6 7 * 8 + bits w0 6 3)) a b)
  | 40 => if x = 0 then (if bits w0 0 6 = 0 ∧ bits w1 0 6 = 0 then .ok (.jmp32 d) else .error .mustBeZero32)
    else if x = 1 then (if bits w0 6 1 = 1 then .error .oddPair else if bits w0 0 6 = 0 ∧ bits w1 0 6 = 0 then .ok (.jmpl d) else .error .mustBeZero32)
    else .error .opcodeExtension
  | 41 => if x = 0 then (if bits w0 3 3 = 0 ∧ bits w1 3 3 = 0 then .ok (.jal32 d b) else .error .mustBeZero32)
    else if x = 1 then (if bits w0 6 1 = 1 then .error .oddPair else if bits w0 3 3 = 0 ∧ bits w1 3 3 = 0 then .ok (.jall d b) else .error .mustBeZero32)
    else .error .opcodeExtension
  | 42 => if x = 0 then .ok (.jeq32 d a b)
    else if x = 1 then (if bits w0 6 1 = 1 then .error .oddPair else .ok (.jeql d a b))
    else .error .opcodeExtension
  | 43 => if x = 0 then .ok (.jne32 d a b)
    else if x = 1 then (if bits w0 6 1 = 1 then .error .oddPair else .ok (.jnel d a b))
    else .error .opcodeExtension
  | 44 => if x = 0 then .ok (.jlts32 d a b)
    else if x = 1 then (if bits w0 6 1 = 1 then .error .oddPair else .ok (.jltsl d a b))
    else .error .opcodeExtension
  | 45 => if x = 0 then .ok (.jles32 d a b)
    else if x = 1 then (if bits w0 6 1 = 1 then .error .oddPair else .ok (.jlesl d a b))
    else .error .opcodeExtension
  | 46 => if x = 0 then .ok (.jltu32 d a b)
    else if x = 1 then (if bits w0 6 1 = 1 then .error .oddPair else .ok (.jltul d a b))
    else .error .opcodeExtension
  | 47 => if x = 0 then .ok (.jleu32 d a b)
    else if x = 1 then (if bits w0 6 1 = 1 then .error .oddPair else .ok (.jleul d a b))
    else .error .opcodeExtension
  | _ => .error .opcode32

/-- The decoder (R28, R70, R96): the instruction the words begin with and the words that remain. -/
def decode : List Word → Except Illegal (Instr × List Word)
  | [] => .error .noWord
  | w0 :: rest =>
    if isLong w0 then
      match rest with
      | [] => .error .noSecondWord
      | w1 :: rest =>
        match decode32 w0 w1 with
        | .ok i => .ok (i, rest)
        | .error e => .error e
    else
      match decode16 w0 with
      | .ok i => .ok (i, rest)
      | .error e => .error e

/-- The words of one opcode-table row's bits. A number of at most 16 bits is the first word, and the second is 0. In a 32-bit
number the half with bit 15 set is the first word of the pair when the other half's is clear: the table writes it high
(R105), and a number whose bit 0 is the first word's bit 0 writes it low; otherwise the low half comes first (entry 26). -/
def tableWords (nbits w : Nat) : List Word :=
  let low : Word := BitVec.ofNat 16 w
  let high : Word := if nbits ≤ 16 then 0 else BitVec.ofNat 16 (w / 65536)
  if isLong high && !isLong low then [high, low] else [low, high]

/-- The instruction the decoder reads from an opcode-table row's bits. -/
def decodeTableWord (nbits w : Nat) : Option Instr :=
  match decode (tableWords nbits w) with
  | .ok (i, _) => some i
  | .error _ => none

/-! The encoder. -/

/-- The `m`-bit two's-complement field of a signed constant (R91). -/
def signedField (m : Nat) (S : Int) : Nat := (S % 2 ^ m).toNat

/-- Formats 1 to 4 (R72 to R75): three 3-bit fields at bits 8:6, 5:3 and 2:0. -/
def format1to4 (op f2 f1 f0 : Nat) : List Word := [BitVec.ofNat 16 (op * 512 + f2 * 64 + f1 * 8 + f0)]

/-- Format 5 (R76): a register at bits 8:6 and a constant at 5:0. -/
def format5 (op d i : Nat) : List Word := [BitVec.ofNat 16 (op * 512 + d * 64 + i)]

/-- Format 6 (R77): a constant at bits 8:3 and a register at 2:0. -/
def format6 (op s b : Nat) : List Word := [BitVec.ofNat 16 (op * 512 + s * 8 + b)]

/-- Format 7 (R78): a constant at bits 8:0. -/
def format7 (op s : Nat) : List Word := [BitVec.ofNat 16 (op * 512 + s)]

/-- The two words of a 32-bit instruction (R79 to R88): bit 15 of the first set, `lo` in `w0[8:0]`, `hi` in `w1[12:0]`. -/
def twoWords (op lo hi : Nat) : List Word := [BitVec.ofNat 16 ((64 + op) * 512 + lo), BitVec.ofNat 16 hi]

/-- Formats 8 to 11 and 13 (R79 to R82, R84): three 6-bit fields, split into low and high halves, and `ext` in `w1[12:9]`. -/
def format8to13 (op ext f2 f1 f0 : Nat) : List Word :=
  twoWords op (f2 % 8 * 64 + f1 % 8 * 8 + f0 % 8) (ext * 512 + f2 / 8 * 64 + f1 / 8 * 8 + f0 / 8)

/-- Format 12 (R83): a 10-bit constant in `w1[12:6]`, `w0[8:6]`, and two registers. -/
def format12 (op s a b : Nat) : List Word :=
  twoWords op (s % 8 * 64 + a % 8 * 8 + b % 8) (s / 8 * 64 + a / 8 * 8 + b / 8)

/-- Formats 14 and 15 (R85, R86): a register and a constant in `w1[12:9]` (format 15), `w1[5:0]`, `w0[5:0]`. -/
def format14to15 (op d i : Nat) : List Word :=
  twoWords op (d % 8 * 64 + i % 64) (i / 4096 * 512 + d / 8 * 64 + i / 64 % 64)

/-- Format 16 (R87, C10): a 16-bit constant in `w1[12:3]`, `w0[8:3]`, and a register. -/
def format16 (op s b : Nat) : List Word := twoWords op (s % 64 * 8 + b % 8) (s / 64 * 8 + b / 8)

/-- Format 17 (R88): a 22-bit constant in `w1[12:0]`, `w0[8:0]`. -/
def format17 (op s : Nat) : List Word := twoWords op (s % 512) (s / 512)

/-- The words of a well-formed instruction, first word (lower address) first. -/
def encode : Instr → List Word
  | .nop16 d I => format5 0 d I
  | .add16 d a b => format1to4 1 d a b
  | .sub16 d a b => format1to4 2 d a b
  | .and16 d a b => format1to4 3 d a b
  | .or16 d a b => format1to4 4 d a b
  | .xor16 d a b => format1to4 5 d a b
  | .asr16 d a b => format1to4 6 d a b
  | .lsl16 d a b => format1to4 7 d a b
  | .lsr16 d a b => format1to4 8 d a b
  | .mov16 d a => format1to4 9 d a 0
  | .addi16 d a I => format1to4 10 d a I
  | .subi16 d a I => format1to4 11 d a I
  | .asri16 d a n => format1to4 12 d a (n - 1)
  | .lsli16 d a n => format1to4 13 d a (n - 1)
  | .lsri16 d a n => format1to4 14 d a (n - 1)
  | .movi16 d I => format5 15 d I
  | .ldb16 d a S => format1to4 16 d a (signedField 3 S)
  | .ldw16 d a S => format1to4 20 d a (signedField 3 S)
  | .ldbPost16 d a S => format1to4 17 d a (signedField 3 S)
  | .ldwPost16 d a S => format1to4 21 d a (signedField 3 S)
  | .ldbPre16 d a S => format1to4 18 d a (signedField 3 S)
  | .ldwPre16 d a S => format1to4 22 d a (signedField 3 S)
  | .stb16 d a S => format1to4 24 d a (signedField 3 S)
  | .stw16 d a S => format1to4 28 d a (signedField 3 S)
  | .stbPost16 d a S => format1to4 25 d a (signedField 3 S)
  | .stwPost16 d a S => format1to4 29 d a (signedField 3 S)
  | .stbPre16 d a S => format1to4 26 d a (signedField 3 S)
  | .stwPre16 d a S => format1to4 30 d a (signedField 3 S)
  | .bra16 S => format7 32 (signedField 9 S)
  | .bal16 S b => format6 33 (signedField 6 S) b
  | .beq16 S a b => format1to4 34 (signedField 3 S) a b
  | .bne16 S a b => format1to4 35 (signedField 3 S) a b
  | .blts16 S a b => format1to4 36 (signedField 3 S) a b
  | .bles16 S a b => format1to4 37 (signedField 3 S) a b
  | .bltu16 S a b => format1to4 38 (signedField 3 S) a b
  | .bleu16 S a b => format1to4 39 (signedField 3 S) a b
  | .jmp16 d => format1to4 40 d 0 0
  | .jal16 d b => format1to4 41 d 0 b
  | .jeq16 d a b => format1to4 42 d a b
  | .jne16 d a b => format1to4 43 d a b
  | .jlts16 d a b => format1to4 44 d a b
  | .jles16 d a b => format1to4 45 d a b
  | .jltu16 d a b => format1to4 46 d a b
  | .jleu16 d a b => format1to4 47 d a b
  | .rte d => format1to4 48 d 0 0
  | .nop32 d I => format14to15 0 d I
  | .add32 d a b => format8to13 1 0 d a b
  | .sub32 d a b => format8to13 2 0 d a b
  | .and32 d a b => format8to13 3 0 d a b
  | .or32 d a b => format8to13 4 0 d a b
  | .xor32 d a b => format8to13 5 0 d a b
  | .asr32 d a b => format8to13 6 0 d a b
  | .lsl32 d a b => format8to13 7 0 d a b
  | .lsr32 d a b => format8to13 8 0 d a b
  | .mov32 d a => format8to13 9 0 d a 0
  | .addi32 d a I => format8to13 10 (I / 64) d a (I % 64)
  | .subi32 d a I => format8to13 11 (I / 64) d a (I % 64)
  | .asri32 d a n => format8to13 12 0 d a (n - 1)
  | .lsli32 d a n => format8to13 13 0 d a (n - 1)
  | .lsri32 d a n => format8to13 14 0 d a (n - 1)
  | .movi32 d I => format14to15 15 d I
  | .addc d a b => format8to13 1 1 d a b
  | .subc d a b => format8to13 2 1 d a b
  | .andi d a I => format8to13 3 (I / 64 * 2 + 1) d a (I % 64)
  | .ori d a I => format8to13 4 (I / 64 * 2 + 1) d a (I % 64)
  | .xori d a I => format8to13 5 (I / 64 * 2 + 1) d a (I % 64)
  | .ldb32 d a S => format8to13 16 (signedField 10 S / 64) d a (signedField 10 S % 64)
  | .ldw32 d a S => format8to13 20 (signedField 10 S / 64) d a (signedField 10 S % 64)
  | .ldbPost32 d a S => format8to13 17 (signedField 10 S / 64) d a (signedField 10 S % 64)
  | .ldwPost32 d a S => format8to13 21 (signedField 10 S / 64) d a (signedField 10 S % 64)
  | .ldbPre32 d a S => format8to13 18 (signedField 10 S / 64) d a (signedField 10 S % 64)
  | .ldwPre32 d a S => format8to13 22 (signedField 10 S / 64) d a (signedField 10 S % 64)
  | .stb32 d a S => format8to13 24 (signedField 10 S / 64) d a (signedField 10 S % 64)
  | .stw32 d a S => format8to13 28 (signedField 10 S / 64) d a (signedField 10 S % 64)
  | .stbPost32 d a S => format8to13 25 (signedField 10 S / 64) d a (signedField 10 S % 64)
  | .stwPost32 d a S => format8to13 29 (signedField 10 S / 64) d a (signedField 10 S % 64)
  | .stbPre32 d a S => format8to13 26 (signedField 10 S / 64) d a (signedField 10 S % 64)
  | .stwPre32 d a S => format8to13 30 (signedField 10 S / 64) d a (signedField 10 S % 64)
  | .bra32 S => format17 32 (signedField 22 S)
  | .bal32 S b => format16 33 (signedField 16 S) b
  | .beq32 S a b => format12 34 (signedField 10 S) a b
  | .bne32 S a b => format12 35 (signedField 10 S) a b
  | .blts32 S a b => format12 36 (signedField 10 S) a b
  | .bles32 S a b => format12 37 (signedField 10 S) a b
  | .bltu32 S a b => format12 38 (signedField 10 S) a b
  | .bleu32 S a b => format12 39 (signedField 10 S) a b
  | .jmp32 d => format8to13 40 0 d 0 0
  | .jal32 d b => format8to13 41 0 d 0 b
  | .jeq32 d a b => format8to13 42 0 d a b
  | .jne32 d a b => format8to13 43 0 d a b
  | .jlts32 d a b => format8to13 44 0 d a b
  | .jles32 d a b => format8to13 45 0 d a b
  | .jltu32 d a b => format8to13 46 0 d a b
  | .jleu32 d a b => format8to13 47 0 d a b
  | .jmpl d => format8to13 40 1 d 0 0
  | .jall d b => format8to13 41 1 d 0 b
  | .jeql d a b => format8to13 42 1 d a b
  | .jnel d a b => format8to13 43 1 d a b
  | .jltsl d a b => format8to13 44 1 d a b
  | .jlesl d a b => format8to13 45 1 d a b
  | .jltul d a b => format8to13 46 1 d a b
  | .jleul d a b => format8to13 47 1 d a b

end Sys2Proof
end

