-- ==== Sys2Proof/Machine/Fetch.lean ====
section
/-! DEFINITION. Instruction fetch (R28, R44) and the placing of a program image in code memory (R33, R46). -/

namespace Sys2Proof.Machine

/-- `imem_exists(w)` (R4, R34, R44), by the parameter. -/
def imemExists (s : State) (w : Nat) : Bool :=
  match s.cfg.imem with
  | .image => (Memory.get s.imem w).isSome
  | .ranges rs => rs.any fun r => decide (r.base ≤ w) && decide (w < r.base + r.size)

/-- `imem[w]`: the value the program image places, or a free value where it places none (entry 9). -/
def wordAt (s : State) (w : Nat) : Word := (Memory.get s.imem w).getD (Config.unplacedWord w)

/-- `IFetch(w)` (R44): a word address that is out of range or does not exist raises `BusError(w)`. -/
def ifetch (s : State) (w : Nat) : Result Word :=
  if w < 2 ^ s.cfg.pcw ∧ imemExists s w = true then .next (wordAt s w) else raise (.busError w)

/-- The words of the instruction at `pc`: one, or two when bit 15 of the first is set (R28, R70). -/
def fetch (s : State) : Result (List Word) :=
  andThen (ifetch s s.pc) fun w0 =>
    if isLong w0 then andThen (ifetch s (s.pc + 1)) fun w1 => .next [w0, w1]
    else .next [w0]

/-- The decode of fetched words; words that match no row raise `IllegalInstruction` (R99, R302). -/
def decodeFetched (ws : List Word) : Result Instr :=
  match decode ws with
  | .ok (i, _) => .next i
  | .error _ => raise (.illegalInstruction ws)

/-- The words of a program image placed in code memory from word address `base` up (R33, R331). Under the parameter's default the
words placed then exist (R4). -/
def loadImage (base : Nat) : List Word → State → State
  | [], s => s
  | w :: ws, s => loadImage (base + 1) ws { s with imem := Memory.put s.imem base w }

/-- `s` with the parameter `imem_exists` admitting `n` words from `base` up; under its default the placed words exist already. -/
def admitCode (base n : Nat) (s : State) : State :=
  match s.cfg.imem with
  | .image => s
  | .ranges rs => { s with cfg := { s.cfg with imem := .ranges ({ base := base, size := n } :: rs) } }

/-- The bytes of an initial data image placed in data memory from byte address `base` up (R330: a run may supply one). -/
def loadData (base : Nat) : List Byte → State → State
  | [], s => s
  | v :: vs, s => loadData (base + 1) vs (writeByte s base v)

/-- The code words of a byte-oriented container (R46, D14), by the parameter `IMEM_BYTE_ORDER`; an odd last byte makes no word. -/
def imageWords (o : ByteOrder) : List Byte → List Word
  | x :: y :: rest =>
    (match o with
      | .littleEndian => BitVec.ofNat 16 (x.toNat + y.toNat * 256)
      | .bigEndian => BitVec.ofNat 16 (x.toNat * 256 + y.toNat)) :: imageWords o rest
  | _ => []

end Sys2Proof.Machine
end

