-- ==== Sys2Proof/Machine/Step.lean ====
section
/-! DEFINITION. One step of the machine (R28), and the placing of an instruction where the next step fetches it. -/

namespace Sys2Proof.Machine

/-- One step (R28): fetch, decode, check every register field, execute. A halted processor takes no step (R36, R306). -/
def step (s : State) : Host.Outcome State Fault Refusal :=
  match s.status with
  | .halted => .refused .halted
  | .running =>
    andThen (fetch s) fun ws =>
      andThen (decodeFetched ws) fun i =>
        andThen (checkRegs s (regFields i)) fun _ => exec i s

/-- `s` with the instruction of an opcode-table row's bits stored at `pc`, where `step` fetches it, and those words existing (entries
8, 9, 26). -/
def State.withFetchWord (s : State) (nbits w : Nat) : State :=
  admitCode s.pc (tableWords nbits w).length (loadImage s.pc (tableWords nbits w) s)

end Sys2Proof.Machine
end

