-- ==== Sys2Proof/Machine/Assembler.lean ====
section
/-! DEFINITION. The assembler notation of an instruction (R101, R102) as structured lines and as text. Which length an assembler
chooses is not decided (R103, D29): a line names its length here. -/

namespace Sys2Proof.Machine

/-- The operands of assembler lines (R102): a register, a constant, and the three addressing forms. -/
inductive AsmOperand where
  | reg (r : Reg)
  | const (v : Int)
  | indexed (base : Reg) (S : Int)
  | postIncrement (base : Reg) (S : Int)
  | preDecrement (base : Reg) (S : Int)
deriving DecidableEq, Repr

/-- A line: the mnemonic, the operands in the source's order (R102), and the length in words (R103). -/
structure AsmLine where
  mnemonic : String
  operands : List AsmOperand
  words : Nat
deriving DecidableEq, Repr

/-- The assembler line of an instruction (R102, R105). -/
def asm : Instr → AsmLine
  | .nop16 d I => ⟨"NOP", [.reg d, .const I], 1⟩
  | .add16 d a b => ⟨"ADD", [.reg d, .reg a, .reg b], 1⟩
  | .sub16 d a b => ⟨"SUB", [.reg d, .reg a, .reg b], 1⟩
  | .and16 d a b => ⟨"AND", [.reg d, .reg a, .reg b], 1⟩
  | .or16 d a b => ⟨"OR", [.reg d, .reg a, .reg b], 1⟩
  | .xor16 d a b => ⟨"XOR", [.reg d, .reg a, .reg b], 1⟩
  | .asr16 d a b => ⟨"ASR", [.reg d, .reg a, .reg b], 1⟩
  | .lsl16 d a b => ⟨"LSL", [.reg d, .reg a, .reg b], 1⟩
  | .lsr16 d a b => ⟨"LSR", [.reg d, .reg a, .reg b], 1⟩
  | .mov16 d a => ⟨"MOV", [.reg d, .reg a], 1⟩
  | .addi16 d a I => ⟨"ADDI", [.reg d, .reg a, .const I], 1⟩
  | .subi16 d a I => ⟨"SUBI", [.reg d, .reg a, .const I], 1⟩
  | .asri16 d a n => ⟨"ASRI", [.reg d, .reg a, .const n], 1⟩
  | .lsli16 d a n => ⟨"LSLI", [.reg d, .reg a, .const n], 1⟩
  | .lsri16 d a n => ⟨"LSRI", [.reg d, .reg a, .const n], 1⟩
  | .movi16 d I => ⟨"MOVI", [.reg d, .const I], 1⟩
  | .ldb16 d a S => ⟨"LDB", [.reg d, .indexed a S], 1⟩
  | .ldw16 d a S => ⟨"LDW", [.reg d, .indexed a S], 1⟩
  | .ldbPost16 d a S => ⟨"LDB", [.reg d, .postIncrement a S], 1⟩
  | .ldwPost16 d a S => ⟨"LDW", [.reg d, .postIncrement a S], 1⟩
  | .ldbPre16 d a S => ⟨"LDB", [.reg d, .preDecrement a S], 1⟩
  | .ldwPre16 d a S => ⟨"LDW", [.reg d, .preDecrement a S], 1⟩
  | .stb16 d a S => ⟨"STB", [.indexed d S, .reg a], 1⟩
  | .stw16 d a S => ⟨"STW", [.indexed d S, .reg a], 1⟩
  | .stbPost16 d a S => ⟨"STB", [.postIncrement d S, .reg a], 1⟩
  | .stwPost16 d a S => ⟨"STW", [.postIncrement d S, .reg a], 1⟩
  | .stbPre16 d a S => ⟨"STB", [.preDecrement d S, .reg a], 1⟩
  | .stwPre16 d a S => ⟨"STW", [.preDecrement d S, .reg a], 1⟩
  | .bra16 S => ⟨"BRA", [.const S], 1⟩
  | .bal16 S b => ⟨"BAL", [.const S, .reg b], 1⟩
  | .beq16 S a b => ⟨"BEQ", [.const S, .reg a, .reg b], 1⟩
  | .bne16 S a b => ⟨"BNE", [.const S, .reg a, .reg b], 1⟩
  | .blts16 S a b => ⟨"BLTS", [.const S, .reg a, .reg b], 1⟩
  | .bles16 S a b => ⟨"BLES", [.const S, .reg a, .reg b], 1⟩
  | .bltu16 S a b => ⟨"BLTU", [.const S, .reg a, .reg b], 1⟩
  | .bleu16 S a b => ⟨"BLEU", [.const S, .reg a, .reg b], 1⟩
  | .jmp16 d => ⟨"JMP", [.reg d], 1⟩
  | .jal16 d b => ⟨"JAL", [.reg d, .reg b], 1⟩
  | .jeq16 d a b => ⟨"JEQ", [.reg d, .reg a, .reg b], 1⟩
  | .jne16 d a b => ⟨"JNE", [.reg d, .reg a, .reg b], 1⟩
  | .jlts16 d a b => ⟨"JLTS", [.reg d, .reg a, .reg b], 1⟩
  | .jles16 d a b => ⟨"JLES", [.reg d, .reg a, .reg b], 1⟩
  | .jltu16 d a b => ⟨"JLTU", [.reg d, .reg a, .reg b], 1⟩
  | .jleu16 d a b => ⟨"JLEU", [.reg d, .reg a, .reg b], 1⟩
  | .rte d => ⟨"RTE", [.reg d], 1⟩
  | .nop32 d I => ⟨"NOP", [.reg d, .const I], 2⟩
  | .add32 d a b => ⟨"ADD", [.reg d, .reg a, .reg b], 2⟩
  | .sub32 d a b => ⟨"SUB", [.reg d, .reg a, .reg b], 2⟩
  | .and32 d a b => ⟨"AND", [.reg d, .reg a, .reg b], 2⟩
  | .or32 d a b => ⟨"OR", [.reg d, .reg a, .reg b], 2⟩
  | .xor32 d a b => ⟨"XOR", [.reg d, .reg a, .reg b], 2⟩
  | .asr32 d a b => ⟨"ASR", [.reg d, .reg a, .reg b], 2⟩
  | .lsl32 d a b => ⟨"LSL", [.reg d, .reg a, .reg b], 2⟩
  | .lsr32 d a b => ⟨"LSR", [.reg d, .reg a, .reg b], 2⟩
  | .mov32 d a => ⟨"MOV", [.reg d, .reg a], 2⟩
  | .addi32 d a I => ⟨"ADDI", [.reg d, .reg a, .const I], 2⟩
  | .subi32 d a I => ⟨"SUBI", [.reg d, .reg a, .const I], 2⟩
  | .asri32 d a n => ⟨"ASRI", [.reg d, .reg a, .const n], 2⟩
  | .lsli32 d a n => ⟨"LSLI", [.reg d, .reg a, .const n], 2⟩
  | .lsri32 d a n => ⟨"LSRI", [.reg d, .reg a, .const n], 2⟩
  | .movi32 d I => ⟨"MOVI", [.reg d, .const I], 2⟩
  | .addc d a b => ⟨"ADDC", [.reg d, .reg a, .reg b], 2⟩
  | .subc d a b => ⟨"SUBC", [.reg d, .reg a, .reg b], 2⟩
  | .andi d a I => ⟨"ANDI", [.reg d, .reg a, .const I], 2⟩
  | .ori d a I => ⟨"ORI", [.reg d, .reg a, .const I], 2⟩
  | .xori d a I => ⟨"XORI", [.reg d, .reg a, .const I], 2⟩
  | .ldb32 d a S => ⟨"LDB", [.reg d, .indexed a S], 2⟩
  | .ldw32 d a S => ⟨"LDW", [.reg d, .indexed a S], 2⟩
  | .ldbPost32 d a S => ⟨"LDB", [.reg d, .postIncrement a S], 2⟩
  | .ldwPost32 d a S => ⟨"LDW", [.reg d, .postIncrement a S], 2⟩
  | .ldbPre32 d a S => ⟨"LDB", [.reg d, .preDecrement a S], 2⟩
  | .ldwPre32 d a S => ⟨"LDW", [.reg d, .preDecrement a S], 2⟩
  | .stb32 d a S => ⟨"STB", [.indexed d S, .reg a], 2⟩
  | .stw32 d a S => ⟨"STW", [.indexed d S, .reg a], 2⟩
  | .stbPost32 d a S => ⟨"STB", [.postIncrement d S, .reg a], 2⟩
  | .stwPost32 d a S => ⟨"STW", [.postIncrement d S, .reg a], 2⟩
  | .stbPre32 d a S => ⟨"STB", [.preDecrement d S, .reg a], 2⟩
  | .stwPre32 d a S => ⟨"STW", [.preDecrement d S, .reg a], 2⟩
  | .bra32 S => ⟨"BRA", [.const S], 2⟩
  | .bal32 S b => ⟨"BAL", [.const S, .reg b], 2⟩
  | .beq32 S a b => ⟨"BEQ", [.const S, .reg a, .reg b], 2⟩
  | .bne32 S a b => ⟨"BNE", [.const S, .reg a, .reg b], 2⟩
  | .blts32 S a b => ⟨"BLTS", [.const S, .reg a, .reg b], 2⟩
  | .bles32 S a b => ⟨"BLES", [.const S, .reg a, .reg b], 2⟩
  | .bltu32 S a b => ⟨"BLTU", [.const S, .reg a, .reg b], 2⟩
  | .bleu32 S a b => ⟨"BLEU", [.const S, .reg a, .reg b], 2⟩
  | .jmp32 d => ⟨"JMP", [.reg d], 2⟩
  | .jal32 d b => ⟨"JAL", [.reg d, .reg b], 2⟩
  | .jeq32 d a b => ⟨"JEQ", [.reg d, .reg a, .reg b], 2⟩
  | .jne32 d a b => ⟨"JNE", [.reg d, .reg a, .reg b], 2⟩
  | .jlts32 d a b => ⟨"JLTS", [.reg d, .reg a, .reg b], 2⟩
  | .jles32 d a b => ⟨"JLES", [.reg d, .reg a, .reg b], 2⟩
  | .jltu32 d a b => ⟨"JLTU", [.reg d, .reg a, .reg b], 2⟩
  | .jleu32 d a b => ⟨"JLEU", [.reg d, .reg a, .reg b], 2⟩
  | .jmpl d => ⟨"JMPL", [.reg d], 2⟩
  | .jall d b => ⟨"JALL", [.reg d, .reg b], 2⟩
  | .jeql d a b => ⟨"JEQL", [.reg d, .reg a, .reg b], 2⟩
  | .jnel d a b => ⟨"JNEL", [.reg d, .reg a, .reg b], 2⟩
  | .jltsl d a b => ⟨"JLTSL", [.reg d, .reg a, .reg b], 2⟩
  | .jlesl d a b => ⟨"JLESL", [.reg d, .reg a, .reg b], 2⟩
  | .jltul d a b => ⟨"JLTUL", [.reg d, .reg a, .reg b], 2⟩
  | .jleul d a b => ⟨"JLEUL", [.reg d, .reg a, .reg b], 2⟩

/-- The text of an operand: `R` and the number, a decimal constant, `(Ra,S)`, `(Ra+,S)`, `(-Ra,S)` (R101, R102). -/
def AsmOperand.text : AsmOperand → String
  | .reg r => "R" ++ toString r.val
  | .const v => toString v
  | .indexed r S => "(R" ++ toString r.val ++ "," ++ toString S ++ ")"
  | .postIncrement r S => "(R" ++ toString r.val ++ "+," ++ toString S ++ ")"
  | .preDecrement r S => "(-R" ++ toString r.val ++ "," ++ toString S ++ ")"

/-- The text of a line: the mnemonic and up to three arguments, separated by commas (R101). -/
def AsmLine.text (l : AsmLine) : String := l.mnemonic ++ " " ++ ",".intercalate (l.operands.map AsmOperand.text)

end Sys2Proof.Machine
end

