-- ==== Sys2Proof/Safety.lean ====
section
/-! DEFINITION. What counts as a sound state and as a safe run, and what each instruction may write. -/

namespace Sys2Proof.Machine

/-- Every state of a run has this form: the parameters are in their ranges (R4), `pc` is a value below 2^PCW (R25), both memories
are canonical, every listed data byte exists and is plain memory (R32, R42, R49), and every code word's address is below
2^PCW (R34). -/
structure State.Sound (s : State) : Prop where
  cfg : s.cfg.wf
  pc : s.pc < 2 ^ s.cfg.pcw
  dmem : Memory.wf s.dmem
  imem : Memory.wf s.imem
  bytes : ∀ c ∈ s.dmem, c.1 < 65536 ∧ dmemKind s.cfg c.1 = some .memory
  words : ∀ c ∈ s.imem, c.1 < 2 ^ s.cfg.pcw

/-- The byte at `a` exists and is plain memory (R42, R49). -/
abbrev plainByte (s : State) (a : Nat) : Prop := a < 65536 ∧ dmemKind s.cfg a = some .memory

/-- The byte at `a` does not exist (R42): no region of the parameters holds it, or 16 bits cannot name it. -/
abbrev missingByte (s : State) (a : Nat) : Prop := 65536 ≤ a ∨ dmemKind s.cfg a = none

/-- Every byte of an access exists and is plain memory. -/
abbrev plainData (s : State) (a : Nat) (sz : Size) : Prop := ∀ k < sz.bytes, plainByte s (a + k)

/-- The next instruction's address, `len` words on, is a value of `pc` (R27). -/
abbrev roomFor (s : State) (len : Nat) : Prop := s.pc + len < 2 ^ s.cfg.pcw

/-- `t` is a value of `pc` (R25, R27). -/
abbrev validPc (s : State) (t : Int) : Prop := 0 ≤ t ∧ t < 2 ^ s.cfg.pcw

/-- The code word at `w` is in range and exists (R44). -/
abbrev fetchable (s : State) (w : Nat) : Prop := w < 2 ^ s.cfg.pcw ∧ imemExists s w = true

/-- The words `ws` stand in code memory from word address `a` up, and exist. -/
def codeAt (s : State) : Nat → List Word → Prop
  | _, [] => True
  | a, w :: ws => fetchable s a ∧ wordAt s a = w ∧ codeAt s (a + 1) ws

/-- A run of `k` steps from `s` that meets no fault and no refusal ends in `t`. -/
def runsTo (k : Nat) (s t : State) : Prop := Host.Core.run Sys2Proof.core k s = .next t

/-- The program at `s` ends safely: after some number of steps without a fault or a refusal the processor has halted (R306). -/
def haltsSafely (s : State) : Prop := ∃ k t, runsTo k s t ∧ t.status = .halted

/-- `t` can be reached from `s` by steps. -/
def Reaches (s t : State) : Prop := ∃ k, runsTo k s t

/-- `nop_effect(d, I, s)` as a list of side effects; none where the parameter refuses the NOP. -/
def nopEffects (s : State) (d I : Nat) : List SideEffect :=
  match nopPolicy s.cfg d I with
  | .refuse => []
  | .effects es => es
  | .free => Config.nopEffect d I s

/-- The instructions R29 names as writers of `carry`. -/
def writesCarry : Instr → Bool
  | .add16 .. | .addi16 .. | .sub16 .. | .subi16 .. | .asr16 .. | .asri16 .. => true
  | .add32 .. | .addi32 .. | .addc .. | .sub32 .. | .subi32 .. | .subc .. | .asr32 .. | .asri32 .. => true
  | _ => false

/-- The instructions the state table of 10_state.md names as writers of data memory: every form of STB and STW. -/
def writesData : Instr → Bool
  | .stb16 .. | .stw16 .. | .stbPost16 .. | .stwPost16 .. | .stbPre16 .. | .stwPre16 .. => true
  | .stb32 .. | .stw32 .. | .stbPost32 .. | .stwPost32 .. | .stbPre32 .. | .stwPre32 .. => true
  | _ => false

/-- The side effects of an instruction in a state (R121, R201): those of `nop_effect` for a NOP but the two conventional 16-bit ones
where the parameter does not refuse it, and none for any other instruction. -/
def effectsOf (i : Instr) (s : State) : List SideEffect :=
  match i with
  | .nop16 d I => if d.val = 0 ∧ (I = 0 ∨ I = 1) then [] else nopEffects s d I
  | .nop32 d I => nopEffects s d I
  | _ => []

/-- The registers an instruction may write by the rule of its own (the state table of 10_state.md): destination, link and write-back
registers. What the side effects of a NOP write, `effectsOf` says. -/
def mayWrite : Instr → List Reg
  | .add16 d _ _ => [d]
  | .sub16 d _ _ => [d]
  | .and16 d _ _ => [d]
  | .or16 d _ _ => [d]
  | .xor16 d _ _ => [d]
  | .asr16 d _ _ => [d]
  | .lsl16 d _ _ => [d]
  | .lsr16 d _ _ => [d]
  | .mov16 d _ => [d]
  | .addi16 d _ _ => [d]
  | .subi16 d _ _ => [d]
  | .asri16 d _ _ => [d]
  | .lsli16 d _ _ => [d]
  | .lsri16 d _ _ => [d]
  | .movi16 d _ => [d]
  | .ldb16 d _ _ => [d]
  | .ldw16 d _ _ => [d]
  | .ldbPost16 d a _ => [d, a]
  | .ldwPost16 d a _ => [d, a]
  | .ldbPre16 d a _ => [d, a]
  | .ldwPre16 d a _ => [d, a]
  | .stbPost16 d _ _ => [d]
  | .stwPost16 d _ _ => [d]
  | .stbPre16 d _ _ => [d]
  | .stwPre16 d _ _ => [d]
  | .bal16 _ b => [b]
  | .jal16 _ b => [b]
  | .add32 d _ _ => [d]
  | .sub32 d _ _ => [d]
  | .and32 d _ _ => [d]
  | .or32 d _ _ => [d]
  | .xor32 d _ _ => [d]
  | .asr32 d _ _ => [d]
  | .lsl32 d _ _ => [d]
  | .lsr32 d _ _ => [d]
  | .mov32 d _ => [d]
  | .addi32 d _ _ => [d]
  | .subi32 d _ _ => [d]
  | .asri32 d _ _ => [d]
  | .lsli32 d _ _ => [d]
  | .lsri32 d _ _ => [d]
  | .movi32 d _ => [d]
  | .addc d _ _ => [d]
  | .subc d _ _ => [d]
  | .andi d _ _ => [d]
  | .ori d _ _ => [d]
  | .xori d _ _ => [d]
  | .ldb32 d _ _ => [d]
  | .ldw32 d _ _ => [d]
  | .ldbPost32 d a _ => [d, a]
  | .ldwPost32 d a _ => [d, a]
  | .ldbPre32 d a _ => [d, a]
  | .ldwPre32 d a _ => [d, a]
  | .stbPost32 d _ _ => [d]
  | .stwPost32 d _ _ => [d]
  | .stbPre32 d _ _ => [d]
  | .stwPre32 d _ _ => [d]
  | .bal32 _ b => [b]
  | .jal32 _ b => [b]
  | .jall _ b => [b]
  | _ => []

end Sys2Proof.Machine
end

