-- ==== Sys2Proof/Certificates/Slice0/Obligations.lean ====
section
/-! DEFINITION. The statements for the provers, and the words they are written in. -/

open Sys2Proof Sys2Proof.Machine

namespace Sys2Proof.Machine

/-- `i`, of `len` words, gives register `d` the value `v` and the carry the value `c`, moves `pc` on, and changes nothing else. -/
abbrev computes (i : Instr) (len : Nat) (d : Reg) (v : Word) (c : Bool) (s : State) : Prop :=
  roomFor s len → exec i s = .next { writeReg s d v with carry := c, pc := s.pc + len }

/-- A word of a 7-bit opcode or extension and three 3-bit fields (30_encoding.md formats 1 to 5 and 8 to 15). -/
abbrev word3 (op f2 f1 f0 : Nat) : Nat := op * 512 + f2 * 64 + f1 * 8 + f0

/-- The `k`-bit two's complement field that holds `S` (R91). -/
abbrev twos (k : Nat) (S : Int) : Nat := (S % 2 ^ k).toNat

/-- `i` is written `line` in assembler, its operands are in the ranges of its rule exactly when `fit`, and it is encoded as the
words `ws`, first word first. -/
abbrev written (i : Instr) (line : AsmLine) (fit : Prop) (ws : List Nat) : Prop :=
  asm i = line ∧ (i.wf = true ↔ fit) ∧ encode i = ws.map (BitVec.ofNat 16)

/-- `i`, of `len` words, transfers control to `target` when `holds` and goes on to the next instruction when not, and changes
nothing but `pc`; a `pc` value that is out of range is not stored and raises the bus error. -/
abbrev branches (i : Instr) (len : Nat) (holds : Prop) (target : Int) (s : State) : Prop :=
  (holds → validPc s target → exec i s = .next { s with pc := target.toNat }) ∧
  (holds → ¬ validPc s target → exec i s = .fault (.busError target)) ∧
  (¬ holds → roomFor s len → exec i s = .next { s with pc := s.pc + len }) ∧
  (¬ holds → ¬ roomFor s len → exec i s = .fault (.busError (s.pc + len)))

/-- `i`, of `len` words, writes its link to `b`, transfers control to `target` and changes nothing else; an out-of-range target
raises the bus error instead, and no link is written. -/
abbrev links (i : Instr) (len : Nat) (b : Reg) (target : Int) (s : State) : Prop :=
  (validPc s target → exec i s = .next { writeReg s b (BitVec.ofNat 16 (s.pc + len)) with pc := target.toNat }) ∧
  (¬ validPc s target → exec i s = .fault (.busError target))

/-- `i`, of `len` words, raises the bus error of the next instruction's address when that is no value of `pc`. -/
abbrev raisesAtTheTop (i : Instr) (len : Nat) (s : State) : Prop :=
  ¬ roomFor s len → exec i s = .fault (.busError (s.pc + len))

/-- `i`, of `len` words, loads the `sz` bytes at `ea` into `d` and changes nothing else but `pc`; when `pc` cannot move on it raises
the bus error instead. -/
abbrev loads (i : Instr) (len : Nat) (sz : Size) (ea : Word) (d : Reg) (s : State) : Prop :=
  plainData s ea.toNat sz →
    (roomFor s len → exec i s = .next { writeReg s d (dataAt s ea.toNat sz) with pc := s.pc + len }) ∧ raisesAtTheTop i len s

/-- `i`, of `len` words, loads the `sz` bytes at `ea` into `d`, writes `ea` to its base `a` and changes nothing else but `pc`; when
`pc` cannot move on it raises the bus error instead. -/
abbrev loadsAndUpdates (i : Instr) (len : Nat) (sz : Size) (ea : Word) (d a : Reg) (s : State) : Prop :=
  plainData s ea.toNat sz →
    (roomFor s len → exec i s = .next { writeReg (writeReg s d (dataAt s ea.toNat sz)) a ea with pc := s.pc + len }) ∧
      raisesAtTheTop i len s

/-- Every data byte of `t` reads as in `s`, but that the `sz` bytes at `a` hold `v`, its low byte first. -/
abbrev storedAt (s t : State) (a : Nat) (v : Word) (sz : Size) : Prop :=
  ∀ b, byteAt t b =
    if b = a then BitVec.ofNat 8 v.toNat
    else if sz = .word ∧ b = a + 1 then BitVec.ofNat 8 (v.toNat / 256)
    else byteAt s b

/-- `t` differs from `s` in data memory, `pc`, the count of draws and the registers at most. -/
abbrev sameElsewhere (s t : State) : Prop :=
  t.carry = s.carry ∧ t.imem = s.imem ∧ t.status = s.status ∧ t.cfg = s.cfg

/-- `i`, of `len` words, stores the `sz` low bytes of `v` at `ea`, gives the registers the values `regs` and changes nothing
else but `pc`; when `pc` cannot move on it raises the bus error instead. -/
abbrev stores (i : Instr) (len : Nat) (sz : Size) (ea v : Word) (regs : Vector Word 64) (s : State) : Prop :=
  plainData s ea.toNat sz →
    (roomFor s len → ∃ t, exec i s = .next t ∧ storedAt s t ea.toNat v sz ∧ t.regs = regs ∧ t.pc = s.pc + len ∧
      sameElsewhere s t ∧ t.draws = s.draws) ∧ raisesAtTheTop i len s

/-- `i` raises the bus error of the first byte of its access at `ea` that does not exist. -/
abbrev missesData (i : Instr) (sz : Size) (ea : Word) (s : State) : Prop :=
  (missingByte s ea.toNat → exec i s = .fault (.busError ea.toNat)) ∧
  (sz = .word → plainByte s ea.toNat → missingByte s (ea.toNat + 1) → exec i s = .fault (.busError (ea.toNat + 1 : Nat)))

/-- The state `nop_effect(d, I, s)` leaves (R4, R121, R201): its side effects in order, with one more value drawn where they are free. -/
abbrev nopState (s : State) (d : Reg) (I : Nat) : State :=
  applyEffects (nopEffects s d I) (if nopPolicy s.cfg d I = .free then drawn s else s)

/-- The length in words of the instructions that compute and go straight on, NOP apart (R120, R200). -/
def straightLine : Instr → Option Nat
  | .add16 .. => some 1
  | .sub16 .. => some 1
  | .and16 .. => some 1
  | .or16 .. => some 1
  | .xor16 .. => some 1
  | .asr16 .. => some 1
  | .lsl16 .. => some 1
  | .lsr16 .. => some 1
  | .mov16 .. => some 1
  | .addi16 .. => some 1
  | .subi16 .. => some 1
  | .asri16 .. => some 1
  | .lsli16 .. => some 1
  | .lsri16 .. => some 1
  | .movi16 .. => some 1
  | .add32 .. => some 2
  | .sub32 .. => some 2
  | .and32 .. => some 2
  | .or32 .. => some 2
  | .xor32 .. => some 2
  | .asr32 .. => some 2
  | .lsl32 .. => some 2
  | .lsr32 .. => some 2
  | .mov32 .. => some 2
  | .addi32 .. => some 2
  | .subi32 .. => some 2
  | .asri32 .. => some 2
  | .lsli32 .. => some 2
  | .lsri32 .. => some 2
  | .movi32 .. => some 2
  | .addc .. => some 2
  | .subc .. => some 2
  | .andi .. => some 2
  | .ori .. => some 2
  | .xori .. => some 2
  | _ => none

end Sys2Proof.Machine

/-- For every well-formed instruction i and every following words, decoding the words of encode i followed by those words gives i
and those words. Cites R89, R90, R91, R92, R94, R95. -/
def Obligations.DecodeEncodeRoundTrip : Prop :=
  ∀ (i : Instr) (rest : List Word), i.wf = true → decode (encode i ++ rest) = .ok (i, rest)

/-- Whatever words decode to an instruction and a rest, the instruction is well formed and the words are its encoding followed by
the rest: no word has two spellings and every fixed or must-be-zero bit is checked. That words outside the table are rejected
is the spec's choice (R99, D10, D19 to D21; log entry 23). Cites R96, R99. -/
def Obligations.EncodeDecodeRoundTrip : Prop :=
  ∀ (ws : List Word) (i : Instr) (rest : List Word),
    decode ws = .ok (i, rest) → i.wf = true ∧ ws = encode i ++ rest

/-- The words 0000001 001 010 011, 0001100 001 010 000, 0010010 001 010 111, 0100010 111 010 011, 0101001 001 000 111, 0110000 101
000000 and the pairs of ANDI R10,R20,511, BAL 0x1234,R9, STW (-R63,256),R8 and JALL R2,R20 decode to ADD R1,R2,R3, ASRI
R1,R2,1, LDB R1,(-R2,-1), BEQ -1,R2,R3, JAL R1,R7, RTE R5 and those four. Cites 30_encoding.md section 2, formats 1 to 5,
30_encoding.md section 3, 40_alu16.md, 45_loadstore32.md. -/
def Obligations.DecodeOfWrittenWords : Prop :=
  decode [0b0000001001010011] = .ok (.add16 1 2 3, []) ∧
    decode [0b0001100001010000] = .ok (.asri16 1 2 1, []) ∧
    decode [0b0010010001010111] = .ok (.ldbPre16 1 2 (-1), []) ∧
    decode [0b0100010111010011] = .ok (.beq16 (-1) 2 3, []) ∧
    decode [0b0101001001000111] = .ok (.jal16 1 7, []) ∧
    decode [0b0110000101000000] = .ok (.rte 5, []) ∧
    decode [0b1000011010100111, 0b0001111001010111] = .ok (.andi 10 20 511, []) ∧
    decode [0b1100001110100001, 0b0000001001000001] = .ok (.bal32 0x1234 9, []) ∧
    decode [0b1011110111000000, 0b0000100111001000] = .ok (.stwPre32 63 8 256, []) ∧
    decode [0b1101001010000100, 0b0000001000000010] = .ok (.jall 2 20, [])

/-- A word with bit 15 clear is rejected exactly when it is class 01 with w[10:9] = 11, class 11 with an opcode other than 0000,
MOV with w[2:0] not 0, JMP or RTE with w[5:0] not 0, or JAL with w[5:3] not 0. That such words are illegal is the spec's
choice (R99, D10, D21; log entry 23). Cites R99 (a) and (b). -/
def Obligations.IllegalWords16 : Prop :=
  ∀ w : Word, isLong w = false →
    ((∃ e, decode [w] = .error e) ↔
      (bits w 13 2 = 1 ∧ bits w 9 2 = 3) ∨ (bits w 13 2 = 3 ∧ bits w 9 4 ≠ 0) ∨
      (bits w 9 6 = 0b001001 ∧ bits w 0 3 ≠ 0) ∨ (bits w 9 6 = 0b101000 ∧ bits w 0 6 ≠ 0) ∨
      (bits w 9 6 = 0b101001 ∧ bits w 3 3 ≠ 0) ∨ (bits w 9 6 = 0b110000 ∧ bits w 0 6 ≠ 0))

/-- A pair whose first word has bit 15 set is rejected exactly when one of the clauses (c) to (f) of R99 holds: the second word's
bits 15:13, class 11, class 01 with form 11, a second-word code that selects nothing, a must-be-zero field that is not zero, a
long jump with an odd d. That such pairs are illegal is the spec's choice (R99, D10, D19, D20, D21, D26; log entry 23). Cites
R99 (c) to (f). -/
def Obligations.IllegalWords32 : Prop :=
  ∀ w0 w1 : Word, isLong w0 = true →
    ((∃ e, decode [w0, w1] = .error e) ↔
      bits w1 15 1 = 1 ∨ bits w1 13 2 ≠ 0 ∨ bits w0 13 2 = 3 ∨ (bits w0 13 2 = 1 ∧ bits w0 9 2 = 3) ∨
      (bits w0 9 6 ∈ [0, 6, 7, 8, 9, 12, 13, 14] ∧ bits w1 9 4 ≠ 0) ∨
      ((bits w0 9 6 ∈ [1, 2] ∨ 40 ≤ bits w0 9 6 ∧ bits w0 9 6 ≤ 47) ∧ 2 ≤ bits w1 9 4) ∨
      (bits w0 9 6 ∈ [3, 4, 5] ∧ bits w1 9 1 = 0 ∧ bits w1 10 3 ≠ 0) ∨
      (bits w0 9 6 = 9 ∧ (bits w0 0 3 ≠ 0 ∨ bits w1 0 3 ≠ 0)) ∨
      (bits w0 9 6 = 40 ∧ (bits w0 0 6 ≠ 0 ∨ bits w1 0 6 ≠ 0)) ∨
      (bits w0 9 6 = 41 ∧ (bits w0 3 3 ≠ 0 ∨ bits w1 3 3 ≠ 0)) ∨
      (40 ≤ bits w0 9 6 ∧ bits w0 9 6 ≤ 47 ∧ bits w1 9 4 = 1 ∧ bits w0 6 1 = 1))

/-- Two instructions whose assembler lines (mnemonic, operands in the source's order, length in words) are equal are the same
instruction. Cites R102, R105. -/
def Obligations.AssemblerLineIdentifies : Prop :=
  ∀ i j : Instr, asm i = asm j → i = j

/-- When the processor runs, the words at pc decode to an instruction with no word left over and every register it names exists,
the step is exec of that instruction at that state, and nothing is added around it. Cites R28. -/
def Obligations.StepRunsDecodedInstruction : Prop :=
  ∀ (s : State) (ws : List Word) (i : Instr), s.status = .running → codeAt s s.pc ws → decode ws = .ok (i, []) →
    (∀ n ∈ regFields i, hasReg s n = true) → step s = exec i s

/-- When the processor runs and the one word at pc (bit 15 clear), or the two words at pc (bit 15 of the first set), are rejected
by the decoder, the step is the fault IllegalInstruction carrying them. The outcome is the spec's choice (R99, D10; log entry
23). Cites 60_exceptions.md R302, row IllegalInstruction, R28. -/
def Obligations.IllegalInstructionRaised : Prop :=
  ∀ (s : State) (w0 w1 : Word), s.status = .running →
    (isLong w0 = false → codeAt s s.pc [w0] → (∃ e, decode [w0] = .error e) → step s = .fault (.illegalInstruction [w0])) ∧
    (isLong w0 = true → codeAt s s.pc [w0, w1] → (∃ e, decode [w0, w1] = .error e) →
      step s = .fault (.illegalInstruction [w0, w1]))

/-- When the words at pc decode to any instruction one of whose register fields (for a long jump also d + 1) names no register,
the step is the fault IllegalRegister of such a field. A number names no register exactly when it is NREGS or more, or 64 or
more, which only d + 1 can be. The outcome is the spec's choice (R22, D2; log entry 17). Cites R22. -/
def Obligations.MissingRegisterRaises : Prop :=
  (∀ (s : State) (n : Nat), hasReg s n = false ↔ s.cfg.nregs ≤ n ∨ 64 ≤ n) ∧
    ∀ (s : State) (ws : List Word) (i : Instr), s.status = .running → codeAt s s.pc ws → decode ws = .ok (i, []) →
      (∃ n ∈ regFields i, hasReg s n = false) →
      ∃ n ∈ regFields i, hasReg s n = false ∧ step s = .fault (.illegalRegister n)

/-- Fetching at word address w gives the word there when w is below 2^PCW and imem_exists(w) holds, and the fault BusError(w) when
w is 2^PCW or more or does not exist. The word is the one the program image places, where it places one. With imem_exists at
its default the words that exist are those the image places, otherwise those of the ranges given. The two settings of
imem_exists are the model's form of the parameter (R4; log entry 9). Cites R44. -/
def Obligations.InstructionFetchValue : Prop :=
  ∀ (s : State) (w : Nat),
    (w < 2 ^ s.cfg.pcw → imemExists s w = true → ifetch s w = .next (wordAt s w)) ∧
    (2 ^ s.cfg.pcw ≤ w ∨ imemExists s w = false → ifetch s w = .fault (.busError w)) ∧
    (∀ v, Memory.get s.imem w = some v → wordAt s w = v) ∧
    (s.cfg.imem = .image → (imemExists s w = true ↔ ∃ v, Memory.get s.imem w = some v)) ∧
    (∀ rs, s.cfg.imem = .ranges rs → (imemExists s w = true ↔ ∃ r ∈ rs, r.base ≤ w ∧ w < r.base + r.size))

/-- A running processor whose pc is out of range or does not exist in code memory faults with BusError(pc). One whose first word
has bit 15 set and whose second word is out of range or does not exist faults with BusError(pc + 1), whatever the first word
is, before anything is decoded. That the second fetch comes before the decode is the spec's choice (R308, D23; log entry 18).
Cites 60_exceptions.md R301, fetch rows, R308. -/
def Obligations.StepFetchBusErrors : Prop :=
  ∀ s : State, s.status = .running →
    ((2 ^ s.cfg.pcw ≤ s.pc ∨ imemExists s s.pc = false) → step s = .fault (.busError s.pc)) ∧
    (∀ w0, codeAt s s.pc [w0] → isLong w0 = true →
      (2 ^ s.cfg.pcw ≤ s.pc + 1 ∨ imemExists s (s.pc + 1) = false) → step s = .fault (.busError (s.pc + 1 : Nat)))

/-- In every state whose status is halted the step is the refusal "halted". The spec says that no further step is taken; that the
model says so by a refusal is the model's choice (log entry 12). Cites 10_state.md R36, 60_exceptions.md R306. -/
def Obligations.HaltedTakesNoStep : Prop :=
  ∀ s : State, s.status = .halted → step s = .refused .halted

/-- From every state in which the parameters are in their ranges, pc is below 2^PCW, both memories are canonical, every listed
data byte exists and every code word address is in range, a step that answers a next state gives such a state again. That pc
stays in its range is the spec's choice (R27, D4; log entry 19); the canonical form is the model's (log entry 7). Cites R25,
R27, R32, R34. -/
def Obligations.SoundKeptByEveryStep : Prop :=
  ∀ s t : State, s.Sound → step s = .next t → t.Sound

/-- The invariant of SoundKeptByEveryStep holds of the state after reset with any parameters in their ranges, so also with those
the model gives it (log entries 1 to 3 and 6). Cites R33, 00_scope.md R4. -/
def Obligations.ResetIsSound : Prop :=
  (∀ c : Config, c.wf → (State.resetWith c).Sound) ∧ State.reset.Sound

/-- After reset with any parameters pc is RESET_PC, the processor runs, and no data byte holds a value. Zero registers and carry,
the empty program image, the count of draws and the parameters of the state after reset are the model's choices (log entries 1
to 8, 27). Cites 70_reset_and_hazards.md R330, 10_state.md R33. -/
def Obligations.ResetState : Prop :=
  (∀ c : Config, (State.resetWith c).pc = c.resetPc ∧ (State.resetWith c).status = .running ∧
      (∀ a, Memory.get (State.resetWith c).dmem a = none) ∧ (∀ r, readReg (State.resetWith c) r = 0) ∧
      (State.resetWith c).carry = false ∧ (State.resetWith c).imem = [] ∧ (State.resetWith c).draws = 0 ∧
      (State.resetWith c).cfg = c) ∧
    State.reset = State.resetWith platform

/-- If a step answers a next state, code memory is what it was: no instruction writes it, so a program cannot modify itself. The
implementation parameters are what they were too: that a parameter of R4 is held in State, and that no step changes it, is the
model's choice (R4; log entry 1). Cites 10_state.md R34, R55, 00_scope.md R4. -/
def Obligations.CodeMemoryNeverChanges : Prop :=
  ∀ s t : State, step s = .next t → t.imem = s.imem ∧ t.cfg = s.cfg

/-- If exec of an instruction answers a next state whose status is not that of the state before, the instruction is the 16-bit NOP
R0,0 and the new status is halted. So no other NOP halts, whatever nop_effect says, and exec never answers running from
halted. Cites 60_exceptions.md R302, row Halt, 60_exceptions.md R306, 60_exceptions.md R308, 93_implementation_defined.md U2. -/
def Obligations.OnlyBreakHalts : Prop :=
  ∀ (i : Instr) (s t : State), exec i s = .next t → t.status ≠ s.status → i = .nop16 0 0 ∧ t.status = .halted

/-- If exec of an instruction that R29 does not name as a writer of carry answers a next state, carry is what it was; every NOP is
one, whatever nop_effect says. ASR and ASRI always clear it. Cites 10_state.md R29. -/
def Obligations.CarryWritersOnly : Prop :=
  (∀ (i : Instr) (s t : State), writesCarry i = false → exec i s = .next t → t.carry = s.carry) ∧
    ∀ (d a b : Reg) (n : Nat) (s t : State),
      (exec (.asr16 d a b) s = .next t ∨ exec (.asr32 d a b) s = .next t ∨ exec (.asri16 d a n) s = .next t ∨
        exec (.asri32 d a n) s = .next t) → t.carry = false

/-- If exec of an instruction that is no form of STB or STW answers a next state, data memory is the same list, so every byte
reads as before; every NOP is one, whatever nop_effect says. Cites 10_state.md, state table, 10_state.md R32, R54. -/
def Obligations.DataWritersOnly : Prop :=
  ∀ (i : Instr) (s t : State), writesData i = false → exec i s = .next t →
    t.dmem = s.dmem ∧ ∀ a, byteAt t a = byteAt s a

/-- If exec of an instruction answers a next state, every register it does not name as destination, link or write-back register,
and that no side effect of a NOP names, is what it was. Every instruction but a NOP has no side effect. That a NOP can write
registers besides Rd is the model's choice (R4, R121; log entry 13). Cites 10_state.md, state table, R26. -/
def Obligations.RegisterWritersOnly : Prop :=
  (∀ (i : Instr) (s t : State) (r : Reg), exec i s = .next t → r ∉ mayWrite i → (∀ v, ⟨r, v⟩ ∉ effectsOf i s) →
      readReg t r = readReg s r) ∧
    ∀ (i : Instr) (s : State), (∀ d I, i ≠ .nop16 d I ∧ i ≠ .nop32 d I) → effectsOf i s = []

/-- If a step answers a next state, every register slot whose number is NREGS or more holds what it held. That the missing numbers
have slots is the model's choice (log entry 30), that naming one raises the spec's (R22, D2). Cites 10_state.md R22. -/
def Obligations.MissingRegistersNeverChange : Prop :=
  ∀ (s t : State) (r : Reg), step s = .next t → hasReg s r = false → readReg t r = readReg s r

/-- After x[d] <- v, x[d] reads v and every other register reads as before; no register is hard-wired. Cites 10_state.md R20,
10_state.md R21. -/
def Obligations.RegisterReadAfterWrite : Prop :=
  ∀ (s : State) (d r : Reg) (v : Word), readReg (writeReg s d v) r = if r = d then v else readReg s r

/-- With pc in range for the next instruction, ADD (16 and 32 bits) gives Rd the sum of Ra and Rb mod 2^16 and carry 1 exactly
when the sum is 2^16 or more; ADDI the same with its constant, below 2^16. pc moves on by the length and nothing else changes;
all operands are read before the write. Each has the assembler line, the operand ranges and the encoding of its rule. The
range of the 32-bit ADDI up to 1023 is C9's resolution against the printed I <= 63 (R211; log entry 29), and that operands are
read before the write is the spec's choice (R10, D15; log entry 31). Cites R122, R131, R202, R211. -/
def Obligations.AddResults : Prop :=
  ∀ (d a b : Reg) (I : Nat) (s : State), I < 65536 →
    computes (.add16 d a b) 1 d (BitVec.ofNat 16 ((readReg s a).toNat + (readReg s b).toNat)) (decide ((readReg s a).toNat + (readReg s b).toNat ≥ 65536)) s ∧
    computes (.add32 d a b) 2 d (BitVec.ofNat 16 ((readReg s a).toNat + (readReg s b).toNat)) (decide ((readReg s a).toNat + (readReg s b).toNat ≥ 65536)) s ∧
    computes (.addi16 d a I) 1 d (BitVec.ofNat 16 ((readReg s a).toNat + I)) (decide ((readReg s a).toNat + I ≥ 65536)) s ∧
    computes (.addi32 d a I) 2 d (BitVec.ofNat 16 ((readReg s a).toNat + I)) (decide ((readReg s a).toNat + I ≥ 65536)) s ∧
    written (.add16 d a b) ⟨"ADD", [.reg d, .reg a, .reg b], 1⟩ (d.val < 8 ∧ a.val < 8 ∧ b.val < 8) [word3 0b0000001 d.val a.val b.val] ∧
    written (.add32 d a b) ⟨"ADD", [.reg d, .reg a, .reg b], 2⟩ True
      [word3 0b1000001 (d.val % 8) (a.val % 8) (b.val % 8), word3 0b0000000 (d.val / 8) (a.val / 8) (b.val / 8)] ∧
    written (.addi16 d a I) ⟨"ADDI", [.reg d, .reg a, .const I], 1⟩ (d.val < 8 ∧ a.val < 8 ∧ I ≤ 7) [word3 0b0001010 d.val a.val I] ∧
    written (.addi32 d a I) ⟨"ADDI", [.reg d, .reg a, .const I], 2⟩ (I ≤ 1023)
      [word3 0b1001010 (d.val % 8) (a.val % 8) (I % 8), word3 (I / 64) (d.val / 8) (a.val / 8) (I / 8 % 8)]

/-- With pc in range for the next instruction, SUB (16 and 32 bits) gives Rd the difference Ra - Rb mod 2^16 and carry 1 exactly
when Rb > Ra unsigned; SUBI the same with its constant, below 2^16. pc moves on and nothing else changes. Each has the
assembler line, the operand ranges and the encoding of its rule. The range of the 32-bit SUBI up to 1023 is C9's resolution
against the printed I <= 63 (R212; log entry 29). Cites R123, R132, R203, R212. -/
def Obligations.SubResults : Prop :=
  ∀ (d a b : Reg) (I : Nat) (s : State), I < 65536 →
    computes (.sub16 d a b) 1 d (BitVec.ofInt 16 ((readReg s a).toNat - (readReg s b).toNat)) (decide ((readReg s b).toNat > (readReg s a).toNat)) s ∧
    computes (.sub32 d a b) 2 d (BitVec.ofInt 16 ((readReg s a).toNat - (readReg s b).toNat)) (decide ((readReg s b).toNat > (readReg s a).toNat)) s ∧
    computes (.subi16 d a I) 1 d (BitVec.ofInt 16 ((readReg s a).toNat - I)) (decide (I > (readReg s a).toNat)) s ∧
    computes (.subi32 d a I) 2 d (BitVec.ofInt 16 ((readReg s a).toNat - I)) (decide (I > (readReg s a).toNat)) s ∧
    written (.sub16 d a b) ⟨"SUB", [.reg d, .reg a, .reg b], 1⟩ (d.val < 8 ∧ a.val < 8 ∧ b.val < 8) [word3 0b0000010 d.val a.val b.val] ∧
    written (.sub32 d a b) ⟨"SUB", [.reg d, .reg a, .reg b], 2⟩ True
      [word3 0b1000010 (d.val % 8) (a.val % 8) (b.val % 8), word3 0b0000000 (d.val / 8) (a.val / 8) (b.val / 8)] ∧
    written (.subi16 d a I) ⟨"SUBI", [.reg d, .reg a, .const I], 1⟩ (d.val < 8 ∧ a.val < 8 ∧ I ≤ 7) [word3 0b0001011 d.val a.val I] ∧
    written (.subi32 d a I) ⟨"SUBI", [.reg d, .reg a, .const I], 2⟩ (I ≤ 1023)
      [word3 0b1001011 (d.val % 8) (a.val % 8) (I % 8), word3 (I / 64) (d.val / 8) (a.val / 8) (I / 8 % 8)]

/-- With pc in range for the next instruction, ADDC gives Rd the sum Ra + Rb + carry mod 2^16 and carry 1 exactly when the sum is
2^16 or more; SUBC gives Ra - Rb - carry mod 2^16 and carry 1 exactly when Rb + carry > Ra over the integers. pc moves on by 2
and nothing else changes. Each has the assembler line, the operand ranges and the encoding of its rule. Cites R217, R218. -/
def Obligations.AddcSubcResults : Prop :=
  ∀ (d a b : Reg) (s : State),
    computes (.addc d a b) 2 d (BitVec.ofNat 16 ((readReg s a).toNat + (readReg s b).toNat + s.carry.toNat)) (decide ((readReg s a).toNat + (readReg s b).toNat + s.carry.toNat ≥ 65536)) s ∧
    computes (.subc d a b) 2 d (BitVec.ofInt 16 ((readReg s a).toNat - (readReg s b).toNat - s.carry.toNat)) (decide ((readReg s b).toNat + s.carry.toNat > (readReg s a).toNat)) s ∧
    written (.addc d a b) ⟨"ADDC", [.reg d, .reg a, .reg b], 2⟩ True
      [word3 0b1000001 (d.val % 8) (a.val % 8) (b.val % 8), word3 0b0000001 (d.val / 8) (a.val / 8) (b.val / 8)] ∧
    written (.subc d a b) ⟨"SUBC", [.reg d, .reg a, .reg b], 2⟩ True
      [word3 0b1000010 (d.val % 8) (a.val % 8) (b.val % 8), word3 0b0000001 (d.val / 8) (a.val / 8) (b.val / 8)]

/-- With pc in range for the next instruction, AND, OR and XOR (16 and 32 bits) give Rd the bitwise result of Ra and Rb; carry
keeps its value, pc moves on and nothing else changes. Each has the assembler line, the operand ranges and the encoding of its
rule. Cites R124, R125, R126, R204, R205, R206. -/
def Obligations.LogicResults : Prop :=
  ∀ (d a b : Reg) (s : State),
    computes (.and16 d a b) 1 d (readReg s a &&& readReg s b) (s.carry) s ∧
    computes (.and32 d a b) 2 d (readReg s a &&& readReg s b) (s.carry) s ∧
    computes (.or16 d a b) 1 d (readReg s a ||| readReg s b) (s.carry) s ∧
    computes (.or32 d a b) 2 d (readReg s a ||| readReg s b) (s.carry) s ∧
    computes (.xor16 d a b) 1 d (readReg s a ^^^ readReg s b) (s.carry) s ∧
    computes (.xor32 d a b) 2 d (readReg s a ^^^ readReg s b) (s.carry) s ∧
    written (.and16 d a b) ⟨"AND", [.reg d, .reg a, .reg b], 1⟩ (d.val < 8 ∧ a.val < 8 ∧ b.val < 8) [word3 0b0000011 d.val a.val b.val] ∧
    written (.and32 d a b) ⟨"AND", [.reg d, .reg a, .reg b], 2⟩ True
      [word3 0b1000011 (d.val % 8) (a.val % 8) (b.val % 8), word3 0b0000000 (d.val / 8) (a.val / 8) (b.val / 8)] ∧
    written (.or16 d a b) ⟨"OR", [.reg d, .reg a, .reg b], 1⟩ (d.val < 8 ∧ a.val < 8 ∧ b.val < 8) [word3 0b0000100 d.val a.val b.val] ∧
    written (.or32 d a b) ⟨"OR", [.reg d, .reg a, .reg b], 2⟩ True
      [word3 0b1000100 (d.val % 8) (a.val % 8) (b.val % 8), word3 0b0000000 (d.val / 8) (a.val / 8) (b.val / 8)] ∧
    written (.xor16 d a b) ⟨"XOR", [.reg d, .reg a, .reg b], 1⟩ (d.val < 8 ∧ a.val < 8 ∧ b.val < 8) [word3 0b0000101 d.val a.val b.val] ∧
    written (.xor32 d a b) ⟨"XOR", [.reg d, .reg a, .reg b], 2⟩ True
      [word3 0b1000101 (d.val % 8) (a.val % 8) (b.val % 8), word3 0b0000000 (d.val / 8) (a.val / 8) (b.val / 8)]

/-- With pc in range for the next instruction and a constant up to 511, ANDI, ORI and XORI give Rd the bitwise result of Ra and
the zero-extended constant; ANDI clears bits 15:9, ORI and XORI pass bits 15:9 of Ra; carry keeps its value, pc moves on by 2
and nothing else changes. Each has the assembler line, the operand ranges and the encoding of its rule. Cites R219, R220,
R221. -/
def Obligations.LogicImmediateResults : Prop :=
  ∀ (d a : Reg) (I : Nat) (s : State), I ≤ 511 →
    computes (.andi d a I) 2 d (readReg s a &&& BitVec.ofNat 16 I) (s.carry) s ∧
    computes (.ori d a I) 2 d (readReg s a ||| BitVec.ofNat 16 I) (s.carry) s ∧
    computes (.xori d a I) 2 d (readReg s a ^^^ BitVec.ofNat 16 I) (s.carry) s ∧
    (readReg s a &&& BitVec.ofNat 16 I).toNat < 512 ∧
    (readReg s a ||| BitVec.ofNat 16 I).toNat / 512 = (readReg s a).toNat / 512 ∧
    (readReg s a ^^^ BitVec.ofNat 16 I).toNat / 512 = (readReg s a).toNat / 512 ∧
    written (.andi d a I) ⟨"ANDI", [.reg d, .reg a, .const I], 2⟩ (I ≤ 511)
      [word3 0b1000011 (d.val % 8) (a.val % 8) (I % 8), word3 (I / 64 * 2 + 1) (d.val / 8) (a.val / 8) (I / 8 % 8)] ∧
    written (.ori d a I) ⟨"ORI", [.reg d, .reg a, .const I], 2⟩ (I ≤ 511)
      [word3 0b1000100 (d.val % 8) (a.val % 8) (I % 8), word3 (I / 64 * 2 + 1) (d.val / 8) (a.val / 8) (I / 8 % 8)] ∧
    written (.xori d a I) ⟨"XORI", [.reg d, .reg a, .const I], 2⟩ (I ≤ 511)
      [word3 0b1000101 (d.val % 8) (a.val % 8) (I % 8), word3 (I / 64 * 2 + 1) (d.val / 8) (a.val / 8) (I / 8 % 8)]

/-- With pc in range for the next instruction, ASR (both lengths) by the whole of Rb, and ASRI (both lengths) by its amount, give
Rd the low 16 bits of carry above Ra divided by 2 to the amount; in particular 0 for an amount of 17 or more. carry becomes 0,
pc moves on and nothing else changes. Each has the assembler line, the operand ranges and the encoding of its rule. That zeros
enter above the carry, against the name, is C11's resolution (R127; log entry 29). Cites R127, R133, R207, R213. -/
def Obligations.AsrResults : Prop :=
  ∀ (d a b : Reg) (n : Nat) (s : State), n < 65536 →
    computes (.asr16 d a b) 1 d (BitVec.ofNat 16 (((readReg s a).toNat + s.carry.toNat * 65536) / 2 ^ (readReg s b).toNat)) (false) s ∧
    computes (.asr32 d a b) 2 d (BitVec.ofNat 16 (((readReg s a).toNat + s.carry.toNat * 65536) / 2 ^ (readReg s b).toNat)) (false) s ∧
    computes (.asri16 d a n) 1 d (BitVec.ofNat 16 (((readReg s a).toNat + s.carry.toNat * 65536) / 2 ^ n)) (false) s ∧
    computes (.asri32 d a n) 2 d (BitVec.ofNat 16 (((readReg s a).toNat + s.carry.toNat * 65536) / 2 ^ n)) (false) s ∧
    (17 ≤ n → BitVec.ofNat 16 (((readReg s a).toNat + s.carry.toNat * 65536) / 2 ^ n) = 0) ∧
    written (.asr16 d a b) ⟨"ASR", [.reg d, .reg a, .reg b], 1⟩ (d.val < 8 ∧ a.val < 8 ∧ b.val < 8) [word3 0b0000110 d.val a.val b.val] ∧
    written (.asr32 d a b) ⟨"ASR", [.reg d, .reg a, .reg b], 2⟩ True
      [word3 0b1000110 (d.val % 8) (a.val % 8) (b.val % 8), word3 0b0000000 (d.val / 8) (a.val / 8) (b.val / 8)] ∧
    written (.asri16 d a n) ⟨"ASRI", [.reg d, .reg a, .const n], 1⟩ (d.val < 8 ∧ a.val < 8 ∧ 1 ≤ n ∧ n ≤ 8) [word3 0b0001100 d.val a.val (n - 1)] ∧
    written (.asri32 d a n) ⟨"ASRI", [.reg d, .reg a, .const n], 2⟩ (1 ≤ n ∧ n ≤ 64)
      [word3 0b1001100 (d.val % 8) (a.val % 8) ((n - 1) % 8), word3 0b0000000 (d.val / 8) (a.val / 8) ((n - 1) / 8)]

/-- With pc in range for the next instruction, LSL and LSR (16 and 32 bits) shift Ra by the whole unsigned value of Rb with zeros
entering, and give 0 for a count of 16 or more; carry keeps its value, pc moves on and nothing else changes. Each has the
assembler line, the operand ranges and the encoding of its rule. Cites R128, R129, R208, R209. -/
def Obligations.LogicalShiftResults : Prop :=
  ∀ (d a b : Reg) (s : State),
    computes (.lsl16 d a b) 1 d (if (readReg s b).toNat ≥ 16 then 0 else BitVec.ofNat 16 ((readReg s a).toNat * 2 ^ (readReg s b).toNat)) (s.carry) s ∧
    computes (.lsl32 d a b) 2 d (if (readReg s b).toNat ≥ 16 then 0 else BitVec.ofNat 16 ((readReg s a).toNat * 2 ^ (readReg s b).toNat)) (s.carry) s ∧
    computes (.lsr16 d a b) 1 d (if (readReg s b).toNat ≥ 16 then 0 else BitVec.ofNat 16 ((readReg s a).toNat / 2 ^ (readReg s b).toNat)) (s.carry) s ∧
    computes (.lsr32 d a b) 2 d (if (readReg s b).toNat ≥ 16 then 0 else BitVec.ofNat 16 ((readReg s a).toNat / 2 ^ (readReg s b).toNat)) (s.carry) s ∧
    written (.lsl16 d a b) ⟨"LSL", [.reg d, .reg a, .reg b], 1⟩ (d.val < 8 ∧ a.val < 8 ∧ b.val < 8) [word3 0b0000111 d.val a.val b.val] ∧
    written (.lsl32 d a b) ⟨"LSL", [.reg d, .reg a, .reg b], 2⟩ True
      [word3 0b1000111 (d.val % 8) (a.val % 8) (b.val % 8), word3 0b0000000 (d.val / 8) (a.val / 8) (b.val / 8)] ∧
    written (.lsr16 d a b) ⟨"LSR", [.reg d, .reg a, .reg b], 1⟩ (d.val < 8 ∧ a.val < 8 ∧ b.val < 8) [word3 0b0001000 d.val a.val b.val] ∧
    written (.lsr32 d a b) ⟨"LSR", [.reg d, .reg a, .reg b], 2⟩ True
      [word3 0b1001000 (d.val % 8) (a.val % 8) (b.val % 8), word3 0b0000000 (d.val / 8) (a.val / 8) (b.val / 8)]

/-- With pc in range for the next instruction and an amount from 1 to 64, LSLI and LSRI (16 and 32 bits) shift Ra by the amount
with zeros entering, and give 0 for an amount of 16 or more; carry keeps its value, pc moves on and nothing else changes. Each
has the assembler line, the operand ranges and the encoding of its rule. Cites R134, R135, R214, R215. -/
def Obligations.LogicalShiftImmediateResults : Prop :=
  ∀ (d a : Reg) (n : Nat) (s : State), 1 ≤ n → n ≤ 64 →
    computes (.lsli16 d a n) 1 d (if n ≥ 16 then 0 else BitVec.ofNat 16 ((readReg s a).toNat * 2 ^ n)) (s.carry) s ∧
    computes (.lsli32 d a n) 2 d (if n ≥ 16 then 0 else BitVec.ofNat 16 ((readReg s a).toNat * 2 ^ n)) (s.carry) s ∧
    computes (.lsri16 d a n) 1 d (if n ≥ 16 then 0 else BitVec.ofNat 16 ((readReg s a).toNat / 2 ^ n)) (s.carry) s ∧
    computes (.lsri32 d a n) 2 d (if n ≥ 16 then 0 else BitVec.ofNat 16 ((readReg s a).toNat / 2 ^ n)) (s.carry) s ∧
    written (.lsli16 d a n) ⟨"LSLI", [.reg d, .reg a, .const n], 1⟩ (d.val < 8 ∧ a.val < 8 ∧ 1 ≤ n ∧ n ≤ 8) [word3 0b0001101 d.val a.val (n - 1)] ∧
    written (.lsli32 d a n) ⟨"LSLI", [.reg d, .reg a, .const n], 2⟩ (1 ≤ n ∧ n ≤ 64)
      [word3 0b1001101 (d.val % 8) (a.val % 8) ((n - 1) % 8), word3 0b0000000 (d.val / 8) (a.val / 8) ((n - 1) / 8)] ∧
    written (.lsri16 d a n) ⟨"LSRI", [.reg d, .reg a, .const n], 1⟩ (d.val < 8 ∧ a.val < 8 ∧ 1 ≤ n ∧ n ≤ 8) [word3 0b0001110 d.val a.val (n - 1)] ∧
    written (.lsri32 d a n) ⟨"LSRI", [.reg d, .reg a, .const n], 2⟩ (1 ≤ n ∧ n ≤ 64)
      [word3 0b1001110 (d.val % 8) (a.val % 8) ((n - 1) % 8), word3 0b0000000 (d.val / 8) (a.val / 8) ((n - 1) / 8)]

/-- With pc in range for the next instruction, MOV gives Rd the value of Ra and MOVI its constant mod 2^16 (any constant its field
holds is below 2^16); carry keeps its value, pc moves on by the length and nothing else changes. Each has the assembler line,
the operand ranges and the encoding of its rule. Cites R130, R136, R210, R216. -/
def Obligations.MoveResults : Prop :=
  ∀ (d a : Reg) (I : Nat) (s : State),
    computes (.mov16 d a) 1 d (readReg s a) (s.carry) s ∧
    computes (.mov32 d a) 2 d (readReg s a) (s.carry) s ∧
    computes (.movi16 d I) 1 d (BitVec.ofNat 16 I) (s.carry) s ∧
    computes (.movi32 d I) 2 d (BitVec.ofNat 16 I) (s.carry) s ∧
    written (.mov16 d a) ⟨"MOV", [.reg d, .reg a], 1⟩ (d.val < 8 ∧ a.val < 8) [word3 0b0001001 d.val a.val 0] ∧
    written (.mov32 d a) ⟨"MOV", [.reg d, .reg a], 2⟩ True
      [word3 0b1001001 (d.val % 8) (a.val % 8) 0, word3 0b0000000 (d.val / 8) (a.val / 8) 0] ∧
    written (.movi16 d I) ⟨"MOVI", [.reg d, .const I], 1⟩ (d.val < 8 ∧ I ≤ 63) [word3 0b0001111 d.val (I / 8) (I % 8)] ∧
    written (.movi32 d I) ⟨"MOVI", [.reg d, .const I], 2⟩ (I ≤ 65535)
      [word3 0b1001111 (d.val % 8) (I / 8 % 8) (I % 8), word3 (I / 4096) (d.val / 8) (I / 512 % 8) (I / 64 % 8)]

/-- For every ALU instruction but NOP, in either length: when pc plus its length is 2^PCW or more, exec is the fault BusError of
that sum and nothing else. The statements on loads, stores and NOPs say the same of those. That pc does not wrap is the spec's
choice (R27, D4; log entry 19). Cites 10_state.md R27, R120, R200. -/
def Obligations.StraightLineRaisesAtTheTop : Prop :=
  ∀ (i : Instr) (len : Nat) (s : State), straightLine i = some len → 2 ^ s.cfg.pcw ≤ s.pc + len →
    exec i s = .fault (.busError (s.pc + len))

/-- The break gives a state whose status is halted, with every register, carry, both memories and the parameters as they were; pc
is the break's address or that address plus one, and nothing says which. It is the word 0x0000 and no other. That pc is one of
these two values is the spec's choice (R306, D24; log entry 11). Cites 60_exceptions.md R306, R98, 40_alu16.md R121. -/
def Obligations.BreakHalts : Prop :=
  (∀ s : State, ∃ t, exec (.nop16 0 0) s = .next t ∧ t.status = .halted ∧ t.regs = s.regs ∧ t.carry = s.carry ∧
      t.dmem = s.dmem ∧ t.imem = s.imem ∧ t.cfg = s.cfg ∧ (t.pc = s.pc ∨ t.pc = s.pc + 1)) ∧
    written (.nop16 0 0) ⟨"NOP", [.reg 0, .const 0], 1⟩ True [0x0000] ∧
    ∀ w : Word, decode [w] = .ok (.nop16 0 0, []) ↔ w = 0x0000

/-- With pc + 1 in range, the 16-bit NOP R0,1 moves pc on by one and changes nothing else, whatever the parameters are; with pc +
1 out of range it raises BusError(pc + 1). It is the word 0x0001. The bus error is the spec's choice (R27, D4; log entry 19).
Cites 40_alu16.md R121, R98. -/
def Obligations.TrueNopOnlyAdvances : Prop :=
  (∀ s : State, (roomFor s 1 → exec (.nop16 0 1) s = .next { s with pc := s.pc + 1 }) ∧ raisesAtTheTop (.nop16 0 1) 1 s) ∧
    written (.nop16 0 1) ⟨"NOP", [.reg 0, .const 1], 1⟩ True [0x0001]

/-- When nop_effect does not refuse it and the next address is in range, every 16-bit NOP but the two conventional ones, and every
32-bit NOP, completes: its side effects take place in order, pc moves on by the length from the NOP's own address, and nothing
else changes: they leave carry, both memories, the status and the parameters as they were. With the next address out of range
it raises BusError(pc + its length). Each has the assembler line, the operand ranges and the encoding of its rule. That a side
effect is a register write is the model's choice (R4, R121; log entry 13), the advance by 2 is C8's resolution (log entry 29),
and the bus error the spec's choice (R27, D4; log entry 19). Cites R121, R201, 10_state.md R26, 10_state.md R27, 10_state.md
R29. -/
def Obligations.OtherNopsAdvance : Prop :=
  ∀ (d : Reg) (I : Nat) (s : State),
    (nopPolicy s.cfg d I ≠ .refuse → ¬ (d = 0 ∧ (I = 0 ∨ I = 1)) →
      (roomFor s 1 → exec (.nop16 d I) s = .next { nopState s d I with pc := s.pc + 1 }) ∧ raisesAtTheTop (.nop16 d I) 1 s) ∧
    (nopPolicy s.cfg d I ≠ .refuse →
      (roomFor s 2 → exec (.nop32 d I) s = .next { nopState s d I with pc := s.pc + 2 }) ∧ raisesAtTheTop (.nop32 d I) 2 s) ∧
    ((nopState s d I).dmem = s.dmem ∧ sameElsewhere s (nopState s d I)) ∧
    written (.nop16 d I) ⟨"NOP", [.reg d, .const I], 1⟩ (d.val < 8 ∧ I ≤ 63) [word3 0b0000000 d.val (I / 8) (I % 8)] ∧
    written (.nop32 d I) ⟨"NOP", [.reg d, .const I], 2⟩ (I ≤ 4095)
      [word3 0b1000000 (d.val % 8) (I / 8 % 8) (I % 8), word3 (I / 4096) (d.val / 8) (I / 512 % 8) (I / 64 % 8)]

/-- Where nop_effect says "no effect", every 16-bit NOP but the two conventional ones moves pc on by 1 and every 32-bit NOP by 2,
and nothing else changes; with the next address out of range it raises the bus error of that address. Where it says "refuse"
each is refused under its own name. The first rule the parameters list for d and I decides, and where there is none what holds
for all others. The parameter is the spec's choice (R4, D11), the form of its settings the model's (log entry 13), the advance
by 2 is C8's resolution (log entry 29), and the bus error the spec's choice (R27, D4; log entry 19). Cites R121, R201,
00_scope.md R4. -/
def Obligations.NopByParameter : Prop :=
  ∀ (d : Reg) (I : Nat) (s : State),
    (nopPolicy s.cfg d I = .effects [] → ¬ (d = 0 ∧ (I = 0 ∨ I = 1)) →
      (roomFor s 1 → exec (.nop16 d I) s = .next { s with pc := s.pc + 1 }) ∧ raisesAtTheTop (.nop16 d I) 1 s) ∧
    (nopPolicy s.cfg d I = .effects [] →
      (roomFor s 2 → exec (.nop32 d I) s = .next { s with pc := s.pc + 2 }) ∧ raisesAtTheTop (.nop32 d I) 2 s) ∧
    (nopPolicy s.cfg d I = .refuse → ¬ (d = 0 ∧ (I = 0 ∨ I = 1)) → exec (.nop16 d I) s = .refused (.nopEffect d I)) ∧
    (nopPolicy s.cfg d I = .refuse → exec (.nop32 d I) s = .refused (.nopEffect d I)) ∧
    (s.cfg.nopFor = [] → nopPolicy s.cfg d I = s.cfg.nop) ∧
    ∀ r rs, s.cfg.nopFor = r :: rs →
      nopPolicy s.cfg d I = if r.d = d ∧ r.I = I then r.policy else nopPolicy { s.cfg with nopFor := rs } d I

/-- With RTE_DEFINED and PCW at least 16, RTE sets pc to the value of Rd and changes nothing else. Without RTE_DEFINED it is
refused. It has the assembler line, the operand range and the encoding of its rule. That RTE_DEFINED holds after reset is the
model's choice (log entry 14). Cites 43_misc16.md R190, 60_exceptions.md R305. -/
def Obligations.RteResult : Prop :=
  ∀ (d : Reg) (s : State),
    (s.cfg.rteDefined = true → 16 ≤ s.cfg.pcw → exec (.rte d) s = .next { s with pc := (readReg s d).toNat }) ∧
    (s.cfg.rteDefined = false → exec (.rte d) s = .refused .rteUndefined) ∧
    written (.rte d) ⟨"RTE", [.reg d], 1⟩ (d.val < 8) [word3 0b0110000 d.val 0 0]

/-- The address of the indexed and post-increment forms is the base register plus the signed offset mod 2^16, that of the pre-
decrement forms the base minus the offset mod 2^16. The reduction mod 2^16 is the spec's choice (R41, D6; log entry 20). Cites
20_memory.md R41. -/
def Obligations.EffectiveAddresses : Prop :=
  ∀ (s : State) (r : Reg) (S : Int),
    ((addressPlus s r S).toNat : Int) = ((readReg s r).toNat + S) % 65536 ∧
    ((addressMinus s r S).toNat : Int) = ((readReg s r).toNat - S) % 65536

/-- For every address: reading one existing byte gives it zero-extended; reading two gives the byte at the address plus 256 times
the byte above it; a missing first byte raises BusError of the address, a missing second byte (an address of 65536 counts as
missing) BusError of the address plus one, before any byte is returned. That an address of 65536 counts as missing is the
spec's choice (R48, D7; log entry 20), and so is the zero-extension (R49, D25; log entry 22). Cites R42, R48, R49. -/
def Obligations.MemReadValue : Prop :=
  ∀ (s : State) (a : Nat),
    (plainByte s a → memRead s a .byte = .next (BitVec.ofNat 16 (byteAt s a).toNat)) ∧
    (plainByte s a → plainByte s (a + 1) →
      memRead s a .word = .next (BitVec.ofNat 16 ((byteAt s a).toNat + 256 * (byteAt s (a + 1)).toNat))) ∧
    (∀ sz, missingByte s a → memRead s a sz = .fault (.busError a)) ∧
    (plainByte s a → missingByte s (a + 1) → memRead s a .word = .fault (.busError (a + 1 : Nat)))

/-- For every address and value: writing one existing byte stores the value's low byte, writing two stores the low byte at the
address and the high byte above it; every other byte and the rest of the state are unchanged. A missing first or second byte
raises its bus error, and there is no next state, so neither byte is written. That no byte is written is the spec's choice
(R43, D9; log entry 16). Cites R43. -/
def Obligations.MemWriteEffect : Prop :=
  ∀ (s : State) (a : Nat) (v : Word) (sz : Size),
    (plainData s a sz → ∃ t, memWrite s a sz v = .next t ∧ storedAt s t a v sz ∧ t = { s with dmem := t.dmem }) ∧
    (missingByte s a → memWrite s a sz v = .fault (.busError a)) ∧
    (plainByte s a → missingByte s (a + 1) → memWrite s a .word v = .fault (.busError (a + 1 : Nat)))

/-- When byte 65535 exists, reading or writing a word at 65535 is the fault BusError(65536), and neither byte is accessed,
whatever the regions of the parameters say of 65536. The outcome is the spec's choice (R48, D7; log entry 20). Cites R48. -/
def Obligations.WordAccessAt65535 : Prop :=
  ∀ (s : State) (v : Word), plainByte s 65535 →
    memRead s 65535 .word = .fault (.busError 65536) ∧ memWrite s 65535 .word v = .fault (.busError 65536)

/-- After a word is stored, a word load at the address gives it back, and byte loads give its low byte at the address and its high
byte above; after two byte stores a word load joins them, the lower address in the low half; a store elsewhere changes none of
it. Cites 20_memory.md R45, 20_memory.md R52. -/
def Obligations.LoadReturnsLastStore : Prop :=
  ∀ (s t : State) (a : Nat) (v : Word),
    (memWrite s a .word v = .next t →
      memRead t a .word = .next v ∧ memRead t a .byte = .next (BitVec.ofNat 16 (v.toNat % 256)) ∧
      memRead t (a + 1) .byte = .next (BitVec.ofNat 16 (v.toNat / 256))) ∧
    (∀ (u : State) (w : Word), memWrite s a .byte v = .next t → memWrite t (a + 1) .byte w = .next u →
      memRead u a .word = .next (BitVec.ofNat 16 (v.toNat % 256 + 256 * (w.toNat % 256)))) ∧
    (∀ (b : Nat) (sz sz' : Size) (w : Word), memWrite s a sz v = .next t → memRead s b sz' = .next w →
      (b + sz'.bytes ≤ a ∨ a + sz.bytes ≤ b) → memRead t b sz' = .next w)

/-- With the accessed bytes existing and the next address in range, LDB and LDW without write-back (16 and 32 bits) load the byte,
zero-extended, or the word at base + S into Rd, move pc on, and change nothing else; d may equal a. With the accessed bytes
existing and the next address out of range each raises BusError(pc plus its length) instead (R27, D4; log entry 19). Each has
the assembler line, the operand ranges and the encoding of its rule. That a byte is zero-extended is the spec's choice (R49,
D25; log entry 22). Cites R141, R142, R231, R232. -/
def Obligations.IndexedLoads : Prop :=
  ∀ (d a : Reg) (S : Int) (s : State),
    loads (.ldb16 d a S) 1 .byte (addressPlus s a S) d s ∧
    loads (.ldb32 d a S) 2 .byte (addressPlus s a S) d s ∧
    loads (.ldw16 d a S) 1 .word (addressPlus s a S) d s ∧
    loads (.ldw32 d a S) 2 .word (addressPlus s a S) d s ∧
    written (.ldb16 d a S) ⟨"LDB", [.reg d, .indexed a S], 1⟩ (d.val < 8 ∧ a.val < 8 ∧ -4 ≤ S ∧ S ≤ 3) [word3 0b0010000 d.val a.val (twos 3 S)] ∧
    written (.ldb32 d a S) ⟨"LDB", [.reg d, .indexed a S], 2⟩ (-512 ≤ S ∧ S ≤ 511)
      [word3 0b1010000 (d.val % 8) (a.val % 8) (twos 10 S % 8), word3 (twos 10 S / 64) (d.val / 8) (a.val / 8) (twos 10 S / 8 % 8)] ∧
    written (.ldw16 d a S) ⟨"LDW", [.reg d, .indexed a S], 1⟩ (d.val < 8 ∧ a.val < 8 ∧ -4 ≤ S ∧ S ≤ 3) [word3 0b0010100 d.val a.val (twos 3 S)] ∧
    written (.ldw32 d a S) ⟨"LDW", [.reg d, .indexed a S], 2⟩ (-512 ≤ S ∧ S ≤ 511)
      [word3 0b1010100 (d.val % 8) (a.val % 8) (twos 10 S % 8), word3 (twos 10 S / 64) (d.val / 8) (a.val / 8) (twos 10 S / 8 % 8)]

/-- With d not a, the accessed bytes existing and the next address in range, LDB and LDW with post-increment (16 and 32 bits) load
from base + S into Rd, write base + S to the base, move pc on, and change nothing else. With the accessed bytes existing and
the next address out of range each raises BusError(pc plus its length) instead (R27, D4; log entry 19). Each has the assembler
line, the operand ranges and the encoding of its rule. That a byte is zero-extended is the spec's choice (R49, D25; log entry
22). Cites R143, R144, R233, R234. -/
def Obligations.PostIncrementLoads : Prop :=
  ∀ (d a : Reg) (S : Int) (s : State),
    (d ≠ a →
      loadsAndUpdates (.ldbPost16 d a S) 1 .byte (addressPlus s a S) d a s ∧
      loadsAndUpdates (.ldbPost32 d a S) 2 .byte (addressPlus s a S) d a s ∧
      loadsAndUpdates (.ldwPost16 d a S) 1 .word (addressPlus s a S) d a s ∧
      loadsAndUpdates (.ldwPost32 d a S) 2 .word (addressPlus s a S) d a s) ∧
    written (.ldbPost16 d a S) ⟨"LDB", [.reg d, .postIncrement a S], 1⟩ (d.val < 8 ∧ a.val < 8 ∧ -4 ≤ S ∧ S ≤ 3) [word3 0b0010001 d.val a.val (twos 3 S)] ∧
    written (.ldbPost32 d a S) ⟨"LDB", [.reg d, .postIncrement a S], 2⟩ (-512 ≤ S ∧ S ≤ 511)
      [word3 0b1010001 (d.val % 8) (a.val % 8) (twos 10 S % 8), word3 (twos 10 S / 64) (d.val / 8) (a.val / 8) (twos 10 S / 8 % 8)] ∧
    written (.ldwPost16 d a S) ⟨"LDW", [.reg d, .postIncrement a S], 1⟩ (d.val < 8 ∧ a.val < 8 ∧ -4 ≤ S ∧ S ≤ 3) [word3 0b0010101 d.val a.val (twos 3 S)] ∧
    written (.ldwPost32 d a S) ⟨"LDW", [.reg d, .postIncrement a S], 2⟩ (-512 ≤ S ∧ S ≤ 511)
      [word3 0b1010101 (d.val % 8) (a.val % 8) (twos 10 S % 8), word3 (twos 10 S / 64) (d.val / 8) (a.val / 8) (twos 10 S / 8 % 8)]

/-- With d not a, the accessed bytes existing and the next address in range, LDB and LDW with pre-decrement (16 and 32 bits) load
from base - S into Rd, write base - S to the base, move pc on, and change nothing else. With the accessed bytes existing and
the next address out of range each raises BusError(pc plus its length) instead (R27, D4; log entry 19). Each has the assembler
line, the operand ranges and the encoding of its rule. That a byte is zero-extended is the spec's choice (R49, D25; log entry
22). Cites R145, R146, R235, R236. -/
def Obligations.PreDecrementLoads : Prop :=
  ∀ (d a : Reg) (S : Int) (s : State),
    (d ≠ a →
      loadsAndUpdates (.ldbPre16 d a S) 1 .byte (addressMinus s a S) d a s ∧
      loadsAndUpdates (.ldbPre32 d a S) 2 .byte (addressMinus s a S) d a s ∧
      loadsAndUpdates (.ldwPre16 d a S) 1 .word (addressMinus s a S) d a s ∧
      loadsAndUpdates (.ldwPre32 d a S) 2 .word (addressMinus s a S) d a s) ∧
    written (.ldbPre16 d a S) ⟨"LDB", [.reg d, .preDecrement a S], 1⟩ (d.val < 8 ∧ a.val < 8 ∧ -4 ≤ S ∧ S ≤ 3) [word3 0b0010010 d.val a.val (twos 3 S)] ∧
    written (.ldbPre32 d a S) ⟨"LDB", [.reg d, .preDecrement a S], 2⟩ (-512 ≤ S ∧ S ≤ 511)
      [word3 0b1010010 (d.val % 8) (a.val % 8) (twos 10 S % 8), word3 (twos 10 S / 64) (d.val / 8) (a.val / 8) (twos 10 S / 8 % 8)] ∧
    written (.ldwPre16 d a S) ⟨"LDW", [.reg d, .preDecrement a S], 1⟩ (d.val < 8 ∧ a.val < 8 ∧ -4 ≤ S ∧ S ≤ 3) [word3 0b0010110 d.val a.val (twos 3 S)] ∧
    written (.ldwPre32 d a S) ⟨"LDW", [.reg d, .preDecrement a S], 2⟩ (-512 ≤ S ∧ S ≤ 511)
      [word3 0b1010110 (d.val % 8) (a.val % 8) (twos 10 S % 8), word3 (twos 10 S / 64) (d.val / 8) (a.val / 8) (twos 10 S / 8 % 8)]

/-- With SAME_REG_WRITEBACK "free", the accessed bytes existing and the next address in range, each of the eight write-back loads
with d = a completes: pc moves on, every other register, carry, memories, status and parameters are as before. What the
register holds is a free value (the model's choice, log entry 15). With the accessed bytes existing and the next address out
of range each raises BusError(pc plus its length) instead (R27, D4; log entry 19). Cites 41_loadstore16.md R140(g),
45_loadstore32.md R230, 92_eei_decisions.md D15. -/
def Obligations.SameRegisterLoads : Prop :=
  ∀ (a : Reg) (S : Int) (s : State), s.cfg.sameReg = .free →
    (plainData s (addressPlus s a S).toNat .byte →
      (roomFor s 1 → ∃ t, exec (.ldbPost16 a a S) s = .next t ∧ t.pc = s.pc + 1 ∧ t.dmem = s.dmem ∧ sameElsewhere s t ∧
        ∀ r, r ≠ a → readReg t r = readReg s r) ∧ raisesAtTheTop (.ldbPost16 a a S) 1 s) ∧
    (plainData s (addressPlus s a S).toNat .byte →
      (roomFor s 2 → ∃ t, exec (.ldbPost32 a a S) s = .next t ∧ t.pc = s.pc + 2 ∧ t.dmem = s.dmem ∧ sameElsewhere s t ∧
        ∀ r, r ≠ a → readReg t r = readReg s r) ∧ raisesAtTheTop (.ldbPost32 a a S) 2 s) ∧
    (plainData s (addressPlus s a S).toNat .word →
      (roomFor s 1 → ∃ t, exec (.ldwPost16 a a S) s = .next t ∧ t.pc = s.pc + 1 ∧ t.dmem = s.dmem ∧ sameElsewhere s t ∧
        ∀ r, r ≠ a → readReg t r = readReg s r) ∧ raisesAtTheTop (.ldwPost16 a a S) 1 s) ∧
    (plainData s (addressPlus s a S).toNat .word →
      (roomFor s 2 → ∃ t, exec (.ldwPost32 a a S) s = .next t ∧ t.pc = s.pc + 2 ∧ t.dmem = s.dmem ∧ sameElsewhere s t ∧
        ∀ r, r ≠ a → readReg t r = readReg s r) ∧ raisesAtTheTop (.ldwPost32 a a S) 2 s) ∧
    (plainData s (addressMinus s a S).toNat .byte →
      (roomFor s 1 → ∃ t, exec (.ldbPre16 a a S) s = .next t ∧ t.pc = s.pc + 1 ∧ t.dmem = s.dmem ∧ sameElsewhere s t ∧
        ∀ r, r ≠ a → readReg t r = readReg s r) ∧ raisesAtTheTop (.ldbPre16 a a S) 1 s) ∧
    (plainData s (addressMinus s a S).toNat .byte →
      (roomFor s 2 → ∃ t, exec (.ldbPre32 a a S) s = .next t ∧ t.pc = s.pc + 2 ∧ t.dmem = s.dmem ∧ sameElsewhere s t ∧
        ∀ r, r ≠ a → readReg t r = readReg s r) ∧ raisesAtTheTop (.ldbPre32 a a S) 2 s) ∧
    (plainData s (addressMinus s a S).toNat .word →
      (roomFor s 1 → ∃ t, exec (.ldwPre16 a a S) s = .next t ∧ t.pc = s.pc + 1 ∧ t.dmem = s.dmem ∧ sameElsewhere s t ∧
        ∀ r, r ≠ a → readReg t r = readReg s r) ∧ raisesAtTheTop (.ldwPre16 a a S) 1 s) ∧
    (plainData s (addressMinus s a S).toNat .word →
      (roomFor s 2 → ∃ t, exec (.ldwPre32 a a S) s = .next t ∧ t.pc = s.pc + 2 ∧ t.dmem = s.dmem ∧ sameElsewhere s t ∧
        ∀ r, r ≠ a → readReg t r = readReg s r) ∧ raisesAtTheTop (.ldwPre32 a a S) 2 s)

/-- With the accessed bytes existing and the next address in range, STB and STW without write-back (16 and 32 bits) store the low
byte, or both bytes with the low one first, of Ra at Rd + S; every other byte reads as before, no register changes, pc moves
on, and nothing else changes. d may equal a. With the accessed bytes existing and the next address out of range each raises
BusError(pc plus its length) instead (R27, D4; log entry 19). Each has the assembler line, the operand ranges and the encoding
of its rule. The first word of the 32-bit STW is C2's resolution (log entry 29). Cites R147, R148, R237, R238. -/
def Obligations.IndexedStores : Prop :=
  ∀ (d a : Reg) (S : Int) (s : State),
    stores (.stb16 d a S) 1 .byte (addressPlus s d S) (readReg s a) s.regs s ∧
    stores (.stb32 d a S) 2 .byte (addressPlus s d S) (readReg s a) s.regs s ∧
    stores (.stw16 d a S) 1 .word (addressPlus s d S) (readReg s a) s.regs s ∧
    stores (.stw32 d a S) 2 .word (addressPlus s d S) (readReg s a) s.regs s ∧
    written (.stb16 d a S) ⟨"STB", [.indexed d S, .reg a], 1⟩ (d.val < 8 ∧ a.val < 8 ∧ -4 ≤ S ∧ S ≤ 3) [word3 0b0011000 d.val a.val (twos 3 S)] ∧
    written (.stb32 d a S) ⟨"STB", [.indexed d S, .reg a], 2⟩ (-512 ≤ S ∧ S ≤ 511)
      [word3 0b1011000 (d.val % 8) (a.val % 8) (twos 10 S % 8), word3 (twos 10 S / 64) (d.val / 8) (a.val / 8) (twos 10 S / 8 % 8)] ∧
    written (.stw16 d a S) ⟨"STW", [.indexed d S, .reg a], 1⟩ (d.val < 8 ∧ a.val < 8 ∧ -4 ≤ S ∧ S ≤ 3) [word3 0b0011100 d.val a.val (twos 3 S)] ∧
    written (.stw32 d a S) ⟨"STW", [.indexed d S, .reg a], 2⟩ (-512 ≤ S ∧ S ≤ 511)
      [word3 0b1011100 (d.val % 8) (a.val % 8) (twos 10 S % 8), word3 (twos 10 S / 64) (d.val / 8) (a.val / 8) (twos 10 S / 8 % 8)]

/-- With the accessed bytes existing and the next address in range, STB and STW with post-increment (16 and 32 bits) store Ra as
it was before the instruction, also where a = d, at Rd + S, write that address to Rd, move pc on, and change no other
register, byte or flag. With the accessed bytes existing and the next address out of range each raises BusError(pc plus its
length) instead (R27, D4; log entry 19). Each has the assembler line, the operand ranges and the encoding of its rule. Cites
R149, R150, R239, R240. -/
def Obligations.PostIncrementStores : Prop :=
  ∀ (d a : Reg) (S : Int) (s : State),
    stores (.stbPost16 d a S) 1 .byte (addressPlus s d S) (readReg s a) (writeReg s d (addressPlus s d S)).regs s ∧
    stores (.stbPost32 d a S) 2 .byte (addressPlus s d S) (readReg s a) (writeReg s d (addressPlus s d S)).regs s ∧
    stores (.stwPost16 d a S) 1 .word (addressPlus s d S) (readReg s a) (writeReg s d (addressPlus s d S)).regs s ∧
    stores (.stwPost32 d a S) 2 .word (addressPlus s d S) (readReg s a) (writeReg s d (addressPlus s d S)).regs s ∧
    written (.stbPost16 d a S) ⟨"STB", [.postIncrement d S, .reg a], 1⟩ (d.val < 8 ∧ a.val < 8 ∧ -4 ≤ S ∧ S ≤ 3) [word3 0b0011001 d.val a.val (twos 3 S)] ∧
    written (.stbPost32 d a S) ⟨"STB", [.postIncrement d S, .reg a], 2⟩ (-512 ≤ S ∧ S ≤ 511)
      [word3 0b1011001 (d.val % 8) (a.val % 8) (twos 10 S % 8), word3 (twos 10 S / 64) (d.val / 8) (a.val / 8) (twos 10 S / 8 % 8)] ∧
    written (.stwPost16 d a S) ⟨"STW", [.postIncrement d S, .reg a], 1⟩ (d.val < 8 ∧ a.val < 8 ∧ -4 ≤ S ∧ S ≤ 3) [word3 0b0011101 d.val a.val (twos 3 S)] ∧
    written (.stwPost32 d a S) ⟨"STW", [.postIncrement d S, .reg a], 2⟩ (-512 ≤ S ∧ S ≤ 511)
      [word3 0b1011101 (d.val % 8) (a.val % 8) (twos 10 S % 8), word3 (twos 10 S / 64) (d.val / 8) (a.val / 8) (twos 10 S / 8 % 8)]

/-- With d not a, the accessed bytes existing and the next address in range, STB and STW with pre-decrement (16 and 32 bits) store
Ra at Rd - S, write that address to Rd, move pc on, and change no other register, byte or flag. With the accessed bytes
existing and the next address out of range each raises BusError(pc plus its length) instead (R27, D4; log entry 19). Each has
the assembler line, the operand ranges and the encoding of its rule. The first word of the 32-bit STW is C1's resolution and
the base register's decrement C6's (log entry 29). Cites R151, R152, R241, R242. -/
def Obligations.PreDecrementStores : Prop :=
  ∀ (d a : Reg) (S : Int) (s : State),
    (d ≠ a →
      stores (.stbPre16 d a S) 1 .byte (addressMinus s d S) (readReg s a) (writeReg s d (addressMinus s d S)).regs s ∧
      stores (.stbPre32 d a S) 2 .byte (addressMinus s d S) (readReg s a) (writeReg s d (addressMinus s d S)).regs s ∧
      stores (.stwPre16 d a S) 1 .word (addressMinus s d S) (readReg s a) (writeReg s d (addressMinus s d S)).regs s ∧
      stores (.stwPre32 d a S) 2 .word (addressMinus s d S) (readReg s a) (writeReg s d (addressMinus s d S)).regs s) ∧
    written (.stbPre16 d a S) ⟨"STB", [.preDecrement d S, .reg a], 1⟩ (d.val < 8 ∧ a.val < 8 ∧ -4 ≤ S ∧ S ≤ 3) [word3 0b0011010 d.val a.val (twos 3 S)] ∧
    written (.stbPre32 d a S) ⟨"STB", [.preDecrement d S, .reg a], 2⟩ (-512 ≤ S ∧ S ≤ 511)
      [word3 0b1011010 (d.val % 8) (a.val % 8) (twos 10 S % 8), word3 (twos 10 S / 64) (d.val / 8) (a.val / 8) (twos 10 S / 8 % 8)] ∧
    written (.stwPre16 d a S) ⟨"STW", [.preDecrement d S, .reg a], 1⟩ (d.val < 8 ∧ a.val < 8 ∧ -4 ≤ S ∧ S ≤ 3) [word3 0b0011110 d.val a.val (twos 3 S)] ∧
    written (.stwPre32 d a S) ⟨"STW", [.preDecrement d S, .reg a], 2⟩ (-512 ≤ S ∧ S ≤ 511)
      [word3 0b1011110 (d.val % 8) (a.val % 8) (twos 10 S % 8), word3 (twos 10 S / 64) (d.val / 8) (a.val / 8) (twos 10 S / 8 % 8)]

/-- With SAME_REG_WRITEBACK "free", the accessed bytes existing and the next address in range, each pre-decrement store with d = a
completes: it stores the old or the decremented register, which of the two is free (the model's choice, log entry 15), at base
- S, writes that address to the base, moves pc on, and changes nothing else. With the accessed bytes existing and the next
address out of range each raises BusError(pc plus its length) instead (R27, D4; log entry 19). Cites 41_loadstore16.md
R140(g), 45_loadstore32.md R230, 92_eei_decisions.md D15. -/
def Obligations.SameRegisterStores : Prop :=
  ∀ (a : Reg) (S : Int) (s : State), s.cfg.sameReg = .free →
    (plainData s (addressMinus s a S).toNat .byte →
      (roomFor s 1 → ∃ t v, exec (.stbPre16 a a S) s = .next t ∧ (v = readReg s a ∨ v = (addressMinus s a S)) ∧ storedAt s t (addressMinus s a S).toNat v .byte ∧
        t.regs = (writeReg s a (addressMinus s a S)).regs ∧ t.pc = s.pc + 1 ∧ sameElsewhere s t) ∧
      raisesAtTheTop (.stbPre16 a a S) 1 s) ∧
    (plainData s (addressMinus s a S).toNat .byte →
      (roomFor s 2 → ∃ t v, exec (.stbPre32 a a S) s = .next t ∧ (v = readReg s a ∨ v = (addressMinus s a S)) ∧ storedAt s t (addressMinus s a S).toNat v .byte ∧
        t.regs = (writeReg s a (addressMinus s a S)).regs ∧ t.pc = s.pc + 2 ∧ sameElsewhere s t) ∧
      raisesAtTheTop (.stbPre32 a a S) 2 s) ∧
    (plainData s (addressMinus s a S).toNat .word →
      (roomFor s 1 → ∃ t v, exec (.stwPre16 a a S) s = .next t ∧ (v = readReg s a ∨ v = (addressMinus s a S)) ∧ storedAt s t (addressMinus s a S).toNat v .word ∧
        t.regs = (writeReg s a (addressMinus s a S)).regs ∧ t.pc = s.pc + 1 ∧ sameElsewhere s t) ∧
      raisesAtTheTop (.stwPre16 a a S) 1 s) ∧
    (plainData s (addressMinus s a S).toNat .word →
      (roomFor s 2 → ∃ t v, exec (.stwPre32 a a S) s = .next t ∧ (v = readReg s a ∨ v = (addressMinus s a S)) ∧ storedAt s t (addressMinus s a S).toNat v .word ∧
        t.regs = (writeReg s a (addressMinus s a S)).regs ∧ t.pc = s.pc + 2 ∧ sameElsewhere s t) ∧
      raisesAtTheTop (.stwPre32 a a S) 2 s)

/-- With SAME_REG_WRITEBACK set to "refuse" (the spec's own default), every write-back load and pre-decrement store whose data
register is its base is refused, before any access. The parameter and its settings are the spec's choice (R4, D15; log entry
15). Cites 41_loadstore16.md R140(g), 00_scope.md R4. -/
def Obligations.SameRegisterRefused : Prop :=
  ∀ (a : Reg) (S : Int) (s : State), s.cfg.sameReg = .refuse →
    exec (.ldbPost16 a a S) s = .refused (.sameRegWriteback a) ∧
    exec (.ldbPost32 a a S) s = .refused (.sameRegWriteback a) ∧
    exec (.ldbPre16 a a S) s = .refused (.sameRegWriteback a) ∧
    exec (.ldbPre32 a a S) s = .refused (.sameRegWriteback a) ∧
    exec (.ldwPost16 a a S) s = .refused (.sameRegWriteback a) ∧
    exec (.ldwPost32 a a S) s = .refused (.sameRegWriteback a) ∧
    exec (.ldwPre16 a a S) s = .refused (.sameRegWriteback a) ∧
    exec (.ldwPre32 a a S) s = .refused (.sameRegWriteback a) ∧
    exec (.stbPre16 a a S) s = .refused (.sameRegWriteback a) ∧
    exec (.stbPre32 a a S) s = .refused (.sameRegWriteback a) ∧
    exec (.stwPre16 a a S) s = .refused (.sameRegWriteback a) ∧
    exec (.stwPre32 a a S) s = .refused (.sameRegWriteback a)

/-- For each of the 24 loads and stores (the write-back loads and pre-decrement stores with d not a, or with SAME_REG_WRITEBACK
"free"): when the first byte of its access does not exist, or the first exists and the second of a word does not, exec is the
fault BusError of that byte, so no register, byte, carry or pc changes. That a fault has no effect is the spec's choice (R303,
D9; log entry 16); that the forms with d = a make their access is the model's (log entry 15). Cites 60_exceptions.md R301,
data rows, 60_exceptions.md R303, R140(d). -/
def Obligations.DataBusErrors : Prop :=
  ∀ (d a : Reg) (S : Int) (s : State),
    missesData (.ldb16 d a S) .byte (addressPlus s a S) s ∧
    (d ≠ a ∨ s.cfg.sameReg = .free → missesData (.ldbPost16 d a S) .byte (addressPlus s a S) s) ∧
    (d ≠ a ∨ s.cfg.sameReg = .free → missesData (.ldbPre16 d a S) .byte (addressMinus s a S) s) ∧
    missesData (.stb16 d a S) .byte (addressPlus s d S) s ∧
    missesData (.stbPost16 d a S) .byte (addressPlus s d S) s ∧
    (d ≠ a ∨ s.cfg.sameReg = .free → missesData (.stbPre16 d a S) .byte (addressMinus s d S) s) ∧
    missesData (.ldw16 d a S) .word (addressPlus s a S) s ∧
    (d ≠ a ∨ s.cfg.sameReg = .free → missesData (.ldwPost16 d a S) .word (addressPlus s a S) s) ∧
    (d ≠ a ∨ s.cfg.sameReg = .free → missesData (.ldwPre16 d a S) .word (addressMinus s a S) s) ∧
    missesData (.stw16 d a S) .word (addressPlus s d S) s ∧
    missesData (.stwPost16 d a S) .word (addressPlus s d S) s ∧
    (d ≠ a ∨ s.cfg.sameReg = .free → missesData (.stwPre16 d a S) .word (addressMinus s d S) s) ∧
    missesData (.ldb32 d a S) .byte (addressPlus s a S) s ∧
    (d ≠ a ∨ s.cfg.sameReg = .free → missesData (.ldbPost32 d a S) .byte (addressPlus s a S) s) ∧
    (d ≠ a ∨ s.cfg.sameReg = .free → missesData (.ldbPre32 d a S) .byte (addressMinus s a S) s) ∧
    missesData (.stb32 d a S) .byte (addressPlus s d S) s ∧
    missesData (.stbPost32 d a S) .byte (addressPlus s d S) s ∧
    (d ≠ a ∨ s.cfg.sameReg = .free → missesData (.stbPre32 d a S) .byte (addressMinus s d S) s) ∧
    missesData (.ldw32 d a S) .word (addressPlus s a S) s ∧
    (d ≠ a ∨ s.cfg.sameReg = .free → missesData (.ldwPost32 d a S) .word (addressPlus s a S) s) ∧
    (d ≠ a ∨ s.cfg.sameReg = .free → missesData (.ldwPre32 d a S) .word (addressMinus s a S) s) ∧
    missesData (.stw32 d a S) .word (addressPlus s d S) s ∧
    missesData (.stwPost32 d a S) .word (addressPlus s d S) s ∧
    (d ≠ a ∨ s.cfg.sameReg = .free → missesData (.stwPre32 d a S) .word (addressMinus s d S) s)

/-- BRA (16 and 32 bits) sets pc to pc + S, counted from its own address, when that is from 0 to 2^PCW - 1, and changes nothing
else; otherwise it raises BusError(pc + S). Each has the assembler line, the operand ranges and the encoding of its rule. The
outcome for a target out of range, and that one in range is stored whether or not it exists, are the spec's choices (R27, D4,
D22; log entries 19, 24). Cites R161, R252. -/
def Obligations.UnconditionalBranches : Prop :=
  ∀ (S : Int) (s : State),
    branches (.bra16 S) 1 True (s.pc + S) s ∧ branches (.bra32 S) 2 True (s.pc + S) s ∧
    written (.bra16 S) ⟨"BRA", [.const S], 1⟩ (-256 ≤ S ∧ S ≤ 255) [0b0100000 * 512 + twos 9 S] ∧
    written (.bra32 S) ⟨"BRA", [.const S], 2⟩ (-2097152 ≤ S ∧ S ≤ 2097151)
      [0b1100000 * 512 + twos 22 S % 512, twos 22 S / 512]

/-- BAL (16 and 32 bits) writes the low 16 bits of pc plus its length to Rb and sets pc to pc + S, counted from its own address,
when that is in range, and changes nothing else; otherwise it raises BusError(pc + S) and no link is written. Each has the
assembler line, the operand ranges and the encoding of its rule. The outcome for a target out of range, the truncated link and
the reads before the write are the spec's choices (D4, D5, D15, D22; log entries 19, 21, 24, 31). The 16-bit constant of the
32-bit BAL is C10's resolution (log entry 29). Cites R162, R253, R160(f). -/
def Obligations.BranchAndLinkResults : Prop :=
  ∀ (S : Int) (b : Reg) (s : State),
    links (.bal16 S b) 1 b (s.pc + S) s ∧ links (.bal32 S b) 2 b (s.pc + S) s ∧
    written (.bal16 S b) ⟨"BAL", [.const S, .reg b], 1⟩ (b.val < 8 ∧ -32 ≤ S ∧ S ≤ 31) [0b0100001 * 512 + twos 6 S * 8 + b.val] ∧
    written (.bal32 S b) ⟨"BAL", [.const S, .reg b], 2⟩ (-32768 ≤ S ∧ S ≤ 32767)
      [0b1100001 * 512 + twos 16 S % 64 * 8 + b.val % 8, twos 16 S / 64 * 8 + b.val / 8]

/-- Each of the twelve conditional branches goes to pc + S when its comparison holds (equality of all bits, signed or unsigned
order, Ra on the left) and to the next instruction when it does not, and changes nothing but pc; the pc value it would store
raises the bus error when it is out of range, and an untaken branch raises nothing for its target. Each has the assembler
line, the operand ranges and the encoding of its rule. The outcome for a target out of range, and that one in range is stored
whether or not it exists, are the spec's choices (R27, D4, D22; log entries 19, 24). Cites R163, R164, R165, R166, R167, R168,
R254, R255, R256, R257, R258, R259. -/
def Obligations.ConditionalBranches : Prop :=
  ∀ (S : Int) (a b : Reg) (s : State),
    branches (.beq16 S a b) 1 (readReg s a = readReg s b) (s.pc + S) s ∧
    branches (.bne16 S a b) 1 (readReg s a ≠ readReg s b) (s.pc + S) s ∧
    branches (.blts16 S a b) 1 ((readReg s a).toInt < (readReg s b).toInt) (s.pc + S) s ∧
    branches (.bles16 S a b) 1 ((readReg s a).toInt ≤ (readReg s b).toInt) (s.pc + S) s ∧
    branches (.bltu16 S a b) 1 ((readReg s a).toNat < (readReg s b).toNat) (s.pc + S) s ∧
    branches (.bleu16 S a b) 1 ((readReg s a).toNat ≤ (readReg s b).toNat) (s.pc + S) s ∧
    branches (.beq32 S a b) 2 (readReg s a = readReg s b) (s.pc + S) s ∧
    branches (.bne32 S a b) 2 (readReg s a ≠ readReg s b) (s.pc + S) s ∧
    branches (.blts32 S a b) 2 ((readReg s a).toInt < (readReg s b).toInt) (s.pc + S) s ∧
    branches (.bles32 S a b) 2 ((readReg s a).toInt ≤ (readReg s b).toInt) (s.pc + S) s ∧
    branches (.bltu32 S a b) 2 ((readReg s a).toNat < (readReg s b).toNat) (s.pc + S) s ∧
    branches (.bleu32 S a b) 2 ((readReg s a).toNat ≤ (readReg s b).toNat) (s.pc + S) s ∧
    written (.beq16 S a b) ⟨"BEQ", [.const S, .reg a, .reg b], 1⟩ (a.val < 8 ∧ b.val < 8 ∧ -4 ≤ S ∧ S ≤ 3) [word3 0b0100010 (twos 3 S) a.val b.val] ∧
    written (.beq32 S a b) ⟨"BEQ", [.const S, .reg a, .reg b], 2⟩ (-512 ≤ S ∧ S ≤ 511)
      [word3 0b1100010 (twos 10 S % 8) (a.val % 8) (b.val % 8), word3 (twos 10 S / 64) (twos 10 S / 8 % 8) (a.val / 8) (b.val / 8)] ∧
    written (.bne16 S a b) ⟨"BNE", [.const S, .reg a, .reg b], 1⟩ (a.val < 8 ∧ b.val < 8 ∧ -4 ≤ S ∧ S ≤ 3) [word3 0b0100011 (twos 3 S) a.val b.val] ∧
    written (.bne32 S a b) ⟨"BNE", [.const S, .reg a, .reg b], 2⟩ (-512 ≤ S ∧ S ≤ 511)
      [word3 0b1100011 (twos 10 S % 8) (a.val % 8) (b.val % 8), word3 (twos 10 S / 64) (twos 10 S / 8 % 8) (a.val / 8) (b.val / 8)] ∧
    written (.blts16 S a b) ⟨"BLTS", [.const S, .reg a, .reg b], 1⟩ (a.val < 8 ∧ b.val < 8 ∧ -4 ≤ S ∧ S ≤ 3) [word3 0b0100100 (twos 3 S) a.val b.val] ∧
    written (.blts32 S a b) ⟨"BLTS", [.const S, .reg a, .reg b], 2⟩ (-512 ≤ S ∧ S ≤ 511)
      [word3 0b1100100 (twos 10 S % 8) (a.val % 8) (b.val % 8), word3 (twos 10 S / 64) (twos 10 S / 8 % 8) (a.val / 8) (b.val / 8)] ∧
    written (.bles16 S a b) ⟨"BLES", [.const S, .reg a, .reg b], 1⟩ (a.val < 8 ∧ b.val < 8 ∧ -4 ≤ S ∧ S ≤ 3) [word3 0b0100101 (twos 3 S) a.val b.val] ∧
    written (.bles32 S a b) ⟨"BLES", [.const S, .reg a, .reg b], 2⟩ (-512 ≤ S ∧ S ≤ 511)
      [word3 0b1100101 (twos 10 S % 8) (a.val % 8) (b.val % 8), word3 (twos 10 S / 64) (twos 10 S / 8 % 8) (a.val / 8) (b.val / 8)] ∧
    written (.bltu16 S a b) ⟨"BLTU", [.const S, .reg a, .reg b], 1⟩ (a.val < 8 ∧ b.val < 8 ∧ -4 ≤ S ∧ S ≤ 3) [word3 0b0100110 (twos 3 S) a.val b.val] ∧
    written (.bltu32 S a b) ⟨"BLTU", [.const S, .reg a, .reg b], 2⟩ (-512 ≤ S ∧ S ≤ 511)
      [word3 0b1100110 (twos 10 S % 8) (a.val % 8) (b.val % 8), word3 (twos 10 S / 64) (twos 10 S / 8 % 8) (a.val / 8) (b.val / 8)] ∧
    written (.bleu16 S a b) ⟨"BLEU", [.const S, .reg a, .reg b], 1⟩ (a.val < 8 ∧ b.val < 8 ∧ -4 ≤ S ∧ S ≤ 3) [word3 0b0100111 (twos 3 S) a.val b.val] ∧
    written (.bleu32 S a b) ⟨"BLEU", [.const S, .reg a, .reg b], 2⟩ (-512 ≤ S ∧ S ≤ 511)
      [word3 0b1100111 (twos 10 S % 8) (a.val % 8) (b.val % 8), word3 (twos 10 S / 64) (twos 10 S / 8 % 8) (a.val / 8) (b.val / 8)]

/-- JMP (16 and 32 bits) sets pc to the value of Rd and changes nothing else; JAL (16 and 32 bits) also writes the low 16 bits of
pc plus its length to Rb, with the target read first, also where d = b. With PCW at least 16 the target is always in range.
Each has the assembler line, the operand ranges and the encoding of its rule. The outcome for a target out of range, the
truncated link and the reads before the write are the spec's choices (D4, D5, D15, D22; log entries 19, 21, 24, 31). Cites
R169, R170, R260, R261. -/
def Obligations.RegisterJumps : Prop :=
  ∀ (d b : Reg) (s : State),
    branches (.jmp16 d) 1 True (readReg s d).toNat s ∧ branches (.jmp32 d) 2 True (readReg s d).toNat s ∧
    links (.jal16 d b) 1 b (readReg s d).toNat s ∧ links (.jal32 d b) 2 b (readReg s d).toNat s ∧
    (16 ≤ s.cfg.pcw → validPc s (readReg s d).toNat) ∧
    written (.jmp16 d) ⟨"JMP", [.reg d], 1⟩ (d.val < 8) [word3 0b0101000 d.val 0 0] ∧
    written (.jmp32 d) ⟨"JMP", [.reg d], 2⟩ True
      [word3 0b1101000 (d.val % 8) 0 0, word3 0b0000000 (d.val / 8) 0 0] ∧
    written (.jal16 d b) ⟨"JAL", [.reg d, .reg b], 1⟩ (d.val < 8 ∧ b.val < 8) [word3 0b0101001 d.val 0 b.val] ∧
    written (.jal32 d b) ⟨"JAL", [.reg d, .reg b], 2⟩ True
      [word3 0b1101001 (d.val % 8) 0 (b.val % 8), word3 0b0000000 (d.val / 8) 0 (b.val / 8)]

/-- Each of the twelve conditional jumps goes to the word address in Rd when its comparison holds and to the next instruction when
it does not, and changes nothing but pc; d may equal a or b. A pc value out of range raises the bus error. Each has the
assembler line, the operand ranges and the encoding of its rule. The outcome for a target out of range, and that one in range
is stored whether or not it exists, are the spec's choices (R27, D4, D22; log entries 19, 24). The opcode of JNE is the
resolution of C3 and C4 (log entry 29). Cites R171, R172, R173, R174, R175, R176, R262, R263, R264, R265, R266, R267. -/
def Obligations.ConditionalJumps : Prop :=
  ∀ (d a b : Reg) (s : State),
    branches (.jeq16 d a b) 1 (readReg s a = readReg s b) (readReg s d).toNat s ∧
    branches (.jne16 d a b) 1 (readReg s a ≠ readReg s b) (readReg s d).toNat s ∧
    branches (.jlts16 d a b) 1 ((readReg s a).toInt < (readReg s b).toInt) (readReg s d).toNat s ∧
    branches (.jles16 d a b) 1 ((readReg s a).toInt ≤ (readReg s b).toInt) (readReg s d).toNat s ∧
    branches (.jltu16 d a b) 1 ((readReg s a).toNat < (readReg s b).toNat) (readReg s d).toNat s ∧
    branches (.jleu16 d a b) 1 ((readReg s a).toNat ≤ (readReg s b).toNat) (readReg s d).toNat s ∧
    branches (.jeq32 d a b) 2 (readReg s a = readReg s b) (readReg s d).toNat s ∧
    branches (.jne32 d a b) 2 (readReg s a ≠ readReg s b) (readReg s d).toNat s ∧
    branches (.jlts32 d a b) 2 ((readReg s a).toInt < (readReg s b).toInt) (readReg s d).toNat s ∧
    branches (.jles32 d a b) 2 ((readReg s a).toInt ≤ (readReg s b).toInt) (readReg s d).toNat s ∧
    branches (.jltu32 d a b) 2 ((readReg s a).toNat < (readReg s b).toNat) (readReg s d).toNat s ∧
    branches (.jleu32 d a b) 2 ((readReg s a).toNat ≤ (readReg s b).toNat) (readReg s d).toNat s ∧
    written (.jeq16 d a b) ⟨"JEQ", [.reg d, .reg a, .reg b], 1⟩ (d.val < 8 ∧ a.val < 8 ∧ b.val < 8) [word3 0b0101010 d.val a.val b.val] ∧
    written (.jeq32 d a b) ⟨"JEQ", [.reg d, .reg a, .reg b], 2⟩ True
      [word3 0b1101010 (d.val % 8) (a.val % 8) (b.val % 8), word3 0b0000000 (d.val / 8) (a.val / 8) (b.val / 8)] ∧
    written (.jne16 d a b) ⟨"JNE", [.reg d, .reg a, .reg b], 1⟩ (d.val < 8 ∧ a.val < 8 ∧ b.val < 8) [word3 0b0101011 d.val a.val b.val] ∧
    written (.jne32 d a b) ⟨"JNE", [.reg d, .reg a, .reg b], 2⟩ True
      [word3 0b1101011 (d.val % 8) (a.val % 8) (b.val % 8), word3 0b0000000 (d.val / 8) (a.val / 8) (b.val / 8)] ∧
    written (.jlts16 d a b) ⟨"JLTS", [.reg d, .reg a, .reg b], 1⟩ (d.val < 8 ∧ a.val < 8 ∧ b.val < 8) [word3 0b0101100 d.val a.val b.val] ∧
    written (.jlts32 d a b) ⟨"JLTS", [.reg d, .reg a, .reg b], 2⟩ True
      [word3 0b1101100 (d.val % 8) (a.val % 8) (b.val % 8), word3 0b0000000 (d.val / 8) (a.val / 8) (b.val / 8)] ∧
    written (.jles16 d a b) ⟨"JLES", [.reg d, .reg a, .reg b], 1⟩ (d.val < 8 ∧ a.val < 8 ∧ b.val < 8) [word3 0b0101101 d.val a.val b.val] ∧
    written (.jles32 d a b) ⟨"JLES", [.reg d, .reg a, .reg b], 2⟩ True
      [word3 0b1101101 (d.val % 8) (a.val % 8) (b.val % 8), word3 0b0000000 (d.val / 8) (a.val / 8) (b.val / 8)] ∧
    written (.jltu16 d a b) ⟨"JLTU", [.reg d, .reg a, .reg b], 1⟩ (d.val < 8 ∧ a.val < 8 ∧ b.val < 8) [word3 0b0101110 d.val a.val b.val] ∧
    written (.jltu32 d a b) ⟨"JLTU", [.reg d, .reg a, .reg b], 2⟩ True
      [word3 0b1101110 (d.val % 8) (a.val % 8) (b.val % 8), word3 0b0000000 (d.val / 8) (a.val / 8) (b.val / 8)] ∧
    written (.jleu16 d a b) ⟨"JLEU", [.reg d, .reg a, .reg b], 1⟩ (d.val < 8 ∧ a.val < 8 ∧ b.val < 8) [word3 0b0101111 d.val a.val b.val] ∧
    written (.jleu32 d a b) ⟨"JLEU", [.reg d, .reg a, .reg b], 2⟩ True
      [word3 0b1101111 (d.val % 8) (a.val % 8) (b.val % 8), word3 0b0000000 (d.val / 8) (a.val / 8) (b.val / 8)]

/-- For even d, JMPL sets pc to 65536 times the value of register d + 1 plus that of register d when that is below 2^PCW, and
changes nothing else; JALL also writes the low 16 bits of pc + 2 to Rb, with both registers read first. A target of 2^PCW or
more raises its bus error, and no link is written. For even d the register d + 1 is the one numbered one higher. Each has the
assembler line, the operand ranges and the encoding of its rule. The outcome for a target out of range, the truncated link and
the reads before the write are the spec's choices (D4, D5, D15, D22; log entries 19, 21, 24, 31). The even d is C5's
resolution (log entry 29). So is the pair of an even register and its successor (R251, D26). Cites R251, R268, R269. -/
def Obligations.LongJumps : Prop :=
  ∀ (d b : Reg) (s : State),
    (d.val % 2 = 0 → branches (.jmpl d) 2 True ((readReg s (d + 1)).toNat * 65536 + (readReg s d).toNat : Nat) s ∧
      links (.jall d b) 2 b ((readReg s (d + 1)).toNat * 65536 + (readReg s d).toNat : Nat) s ∧ (d + 1 : Reg).val = d.val + 1) ∧
    written (.jmpl d) ⟨"JMPL", [.reg d], 2⟩ (d.val % 2 = 0)
      [word3 0b1101000 (d.val % 8) 0 0, word3 0b0000001 (d.val / 8) 0 0] ∧
    written (.jall d b) ⟨"JALL", [.reg d, .reg b], 2⟩ (d.val % 2 = 0)
      [word3 0b1101001 (d.val % 8) 0 (b.val % 8), word3 0b0000001 (d.val / 8) 0 (b.val / 8)]

/-- For even d, each of the six conditional long jumps goes to 65536 times register d + 1 plus register d when its comparison
holds, or raises the bus error of that target when it is 2^PCW or more; when the comparison does not hold it goes on to pc + 2
whatever the pair holds. Nothing but pc changes. Each has the assembler line, the operand ranges and the encoding of its rule.
The pair and the outcome for a target out of range are the spec's choices (R251, D4, D22, D26; log entries 19, 24). The even d
is C5's resolution and the opcode of JNEL C4's (log entry 29). Cites R251, R270, R271, R272, R273, R274, R275. -/
def Obligations.ConditionalLongJumps : Prop :=
  ∀ (d a b : Reg) (s : State),
    (d.val % 2 = 0 →
      branches (.jeql d a b) 2 (readReg s a = readReg s b) ((readReg s (d + 1)).toNat * 65536 + (readReg s d).toNat : Nat) s ∧
      branches (.jnel d a b) 2 (readReg s a ≠ readReg s b) ((readReg s (d + 1)).toNat * 65536 + (readReg s d).toNat : Nat) s ∧
      branches (.jltsl d a b) 2 ((readReg s a).toInt < (readReg s b).toInt) ((readReg s (d + 1)).toNat * 65536 + (readReg s d).toNat : Nat) s ∧
      branches (.jlesl d a b) 2 ((readReg s a).toInt ≤ (readReg s b).toInt) ((readReg s (d + 1)).toNat * 65536 + (readReg s d).toNat : Nat) s ∧
      branches (.jltul d a b) 2 ((readReg s a).toNat < (readReg s b).toNat) ((readReg s (d + 1)).toNat * 65536 + (readReg s d).toNat : Nat) s ∧
      branches (.jleul d a b) 2 ((readReg s a).toNat ≤ (readReg s b).toNat) ((readReg s (d + 1)).toNat * 65536 + (readReg s d).toNat : Nat) s) ∧
    written (.jeql d a b) ⟨"JEQL", [.reg d, .reg a, .reg b], 2⟩ (d.val % 2 = 0)
      [word3 0b1101010 (d.val % 8) (a.val % 8) (b.val % 8), word3 0b0000001 (d.val / 8) (a.val / 8) (b.val / 8)] ∧
    written (.jnel d a b) ⟨"JNEL", [.reg d, .reg a, .reg b], 2⟩ (d.val % 2 = 0)
      [word3 0b1101011 (d.val % 8) (a.val % 8) (b.val % 8), word3 0b0000001 (d.val / 8) (a.val / 8) (b.val / 8)] ∧
    written (.jltsl d a b) ⟨"JLTSL", [.reg d, .reg a, .reg b], 2⟩ (d.val % 2 = 0)
      [word3 0b1101100 (d.val % 8) (a.val % 8) (b.val % 8), word3 0b0000001 (d.val / 8) (a.val / 8) (b.val / 8)] ∧
    written (.jlesl d a b) ⟨"JLESL", [.reg d, .reg a, .reg b], 2⟩ (d.val % 2 = 0)
      [word3 0b1101101 (d.val % 8) (a.val % 8) (b.val % 8), word3 0b0000001 (d.val / 8) (a.val / 8) (b.val / 8)] ∧
    written (.jltul d a b) ⟨"JLTUL", [.reg d, .reg a, .reg b], 2⟩ (d.val % 2 = 0)
      [word3 0b1101110 (d.val % 8) (a.val % 8) (b.val % 8), word3 0b0000001 (d.val / 8) (a.val / 8) (b.val / 8)] ∧
    written (.jleul d a b) ⟨"JLEUL", [.reg d, .reg a, .reg b], 2⟩ (d.val % 2 = 0)
      [word3 0b1101111 (d.val % 8) (a.val % 8) (b.val % 8), word3 0b0000001 (d.val / 8) (a.val / 8) (b.val / 8)]

/-- A side effect gives a register that exists its value and changes nothing else, and on a register that does not exist it does
nothing. Side effects take place in order, and a list of them leaves every register it does not name, and every register that
does not exist, as it was, and changes nothing but registers. That side effects come as a list of register writes is the
model's choice (log entry 13). Cites R121, R201, 00_scope.md R4, 10_state.md R22. -/
def Obligations.SideEffectsOfNops : Prop :=
  (∀ (s : State) (r : Reg) (v : Word), applyEffect s ⟨r, v⟩ = if hasReg s r = true then writeReg s r v else s) ∧
    (∀ (s : State) (e : SideEffect) (es : List SideEffect), applyEffects [] s = s ∧
      applyEffects (e :: es) s = applyEffects es (applyEffect s e)) ∧
    ∀ (s : State) (es : List SideEffect), applyEffects es s = { s with regs := (applyEffects es s).regs } ∧
      ∀ r : Reg, (∀ v, ⟨r, v⟩ ∉ es) ∨ hasReg s r = false → readReg (applyEffects es s) r = readReg s r
end

