-- ==== Sys2Proof/Laws/Decode.lean ====
section
/-! SUPPORT. The laws of the fields of an encoding. -/

namespace Sys2Proof

theorem bits_lt (w : Word) (lo n : Nat) : bits w lo n < 2 ^ n := Nat.mod_lt _ (by positivity)

theorem signedField_lt (m : Nat) (S : Int) : signedField m S < 2 ^ m := by
  have hp : (0 : Int) < 2 ^ m := by positivity
  have h1 := Int.emod_lt_of_pos S hp
  have h0 := Int.emod_nonneg S (show (2 : Int) ^ m ≠ 0 by omega)
  unfold signedField
  zify
  rw [Int.toNat_of_nonneg h0]
  exact_mod_cast h1

/-- A signed constant that fits its field is read back from it (R91). -/
theorem signed_signedField (m : Nat) (S : Int) (h : signedFits (m + 1) S = true) : signed (m + 1) (signedField (m + 1) S) = S := by
  simp only [signedFits, decide_eq_true_eq, signedField, signed, Nat.add_sub_cancel] at h ⊢
  have hd : (2 : Int) ^ (m + 1) = 2 ^ m * 2 := by ring
  have hp : 0 < (2 : Int) ^ m := by positivity
  have hlt := Int.toNat_lt_of_ne_zero (m := S % (2 ^ m * 2)) (n := 2 ^ m) (by positivity)
  push_cast at hlt
  have h0 : 0 ≤ S % (2 ^ m * 2) := Int.emod_nonneg _ (by omega)
  simp only [hd, hlt, Int.toNat_of_nonneg h0]
  generalize (2 : Int) ^ m = p at *
  by_cases hs : 0 ≤ S
  · rw [Int.emod_eq_of_lt hs (by omega)]
    exact if_pos h.2
  · rw [← Int.add_emod_right, Int.emod_eq_of_lt (by omega) (by omega), if_neg (by omega)]
    omega

/-- A value of a signed field fits it, and the field is read back (R91). -/
theorem signedFits_signed (m v : Nat) (h : v < 2 ^ (m + 1)) :
    signedFits (m + 1) (signed (m + 1) v) = true ∧ signedField (m + 1) (signed (m + 1) v) = v := by
  simp only [signedFits, decide_eq_true_eq, signedField, signed, Nat.add_sub_cancel]
  have hd : (2 : Int) ^ (m + 1) = 2 ^ m * 2 := by ring
  have hv : (v : Int) < 2 ^ m * 2 := by rw [← hd]; exact_mod_cast h
  have hp : 0 < (2 : Int) ^ m := by positivity
  rw [hd]
  split
  · next hl =>
    have hl : (v : Int) < 2 ^ m := by exact_mod_cast hl
    exact ⟨⟨by omega, hl⟩, by rw [Int.emod_eq_of_lt (by omega) hv]; simp⟩
  · next hl =>
    have hl : (2 : Int) ^ m ≤ v := by exact_mod_cast Nat.le_of_not_lt hl
    exact ⟨⟨by omega, by omega⟩, by rw [Int.sub_emod_right, Int.emod_eq_of_lt (by omega) hv]; simp⟩

/-- A register number is read back from its own value. -/
@[simp] theorem ofNat_val (r : Reg) : (Fin.ofNat 64 r.val : Reg) = r := by simp

end Sys2Proof
end

