-- ==== Sys2Proof/Laws/State.lean ====
section
/-! SUPPORT. What each named update of the state leaves in each field, and what registers read after a write. -/

namespace Sys2Proof.Machine

/-! `writeReg` -/

@[simp] theorem writeReg_pc (s : State) (r : Reg) (v : Word) : (writeReg s r v).pc = s.pc := rfl
@[simp] theorem writeReg_carry (s : State) (r : Reg) (v : Word) : (writeReg s r v).carry = s.carry := rfl
@[simp] theorem writeReg_dmem (s : State) (r : Reg) (v : Word) : (writeReg s r v).dmem = s.dmem := rfl
@[simp] theorem writeReg_imem (s : State) (r : Reg) (v : Word) : (writeReg s r v).imem = s.imem := rfl
@[simp] theorem writeReg_status (s : State) (r : Reg) (v : Word) : (writeReg s r v).status = s.status := rfl
@[simp] theorem writeReg_draws (s : State) (r : Reg) (v : Word) : (writeReg s r v).draws = s.draws := rfl
@[simp] theorem writeReg_cfg (s : State) (r : Reg) (v : Word) : (writeReg s r v).cfg = s.cfg := rfl

/-! `writeByte` -/

@[simp] theorem writeByte_regs (s : State) (a : Nat) (v : Byte) : (writeByte s a v).regs = s.regs := rfl
@[simp] theorem writeByte_pc (s : State) (a : Nat) (v : Byte) : (writeByte s a v).pc = s.pc := rfl
@[simp] theorem writeByte_carry (s : State) (a : Nat) (v : Byte) : (writeByte s a v).carry = s.carry := rfl
@[simp] theorem writeByte_imem (s : State) (a : Nat) (v : Byte) : (writeByte s a v).imem = s.imem := rfl
@[simp] theorem writeByte_status (s : State) (a : Nat) (v : Byte) : (writeByte s a v).status = s.status := rfl
@[simp] theorem writeByte_draws (s : State) (a : Nat) (v : Byte) : (writeByte s a v).draws = s.draws := rfl
@[simp] theorem writeByte_cfg (s : State) (a : Nat) (v : Byte) : (writeByte s a v).cfg = s.cfg := rfl

/-! `drawn` -/

@[simp] theorem drawn_regs (s : State) : (drawn s).regs = s.regs := rfl
@[simp] theorem drawn_pc (s : State) : (drawn s).pc = s.pc := rfl
@[simp] theorem drawn_carry (s : State) : (drawn s).carry = s.carry := rfl
@[simp] theorem drawn_dmem (s : State) : (drawn s).dmem = s.dmem := rfl
@[simp] theorem drawn_imem (s : State) : (drawn s).imem = s.imem := rfl
@[simp] theorem drawn_status (s : State) : (drawn s).status = s.status := rfl
@[simp] theorem drawn_draws (s : State) : (drawn s).draws = s.draws + 1 := rfl
@[simp] theorem drawn_cfg (s : State) : (drawn s).cfg = s.cfg := rfl

/-! `halt` -/

@[simp] theorem halt_regs (s : State) : (halt s).regs = s.regs := rfl
@[simp] theorem halt_carry (s : State) : (halt s).carry = s.carry := rfl
@[simp] theorem halt_dmem (s : State) : (halt s).dmem = s.dmem := rfl
@[simp] theorem halt_imem (s : State) : (halt s).imem = s.imem := rfl
@[simp] theorem halt_status (s : State) : (halt s).status = .halted := rfl
@[simp] theorem halt_cfg (s : State) : (halt s).cfg = s.cfg := rfl

/-- The break leaves `pc` where it is or one further (R306). -/
theorem halt_pc (s : State) : (halt s).pc = s.pc ∨ (halt s).pc = s.pc + 1 ∧ s.pc + 1 < 2 ^ s.cfg.pcw := by
  unfold halt
  dsimp only
  split
  · next h => exact .inr ⟨rfl, h.2⟩
  · exact .inl rfl

/-! `storeData` -/

@[simp] theorem storeData_regs (s : State) (a : Nat) (v : Word) (sz : Size) : (storeData s a v sz).regs = s.regs := by cases sz <;> rfl
@[simp] theorem storeData_pc (s : State) (a : Nat) (v : Word) (sz : Size) : (storeData s a v sz).pc = s.pc := by cases sz <;> rfl
@[simp] theorem storeData_carry (s : State) (a : Nat) (v : Word) (sz : Size) : (storeData s a v sz).carry = s.carry := by cases sz <;> rfl
@[simp] theorem storeData_imem (s : State) (a : Nat) (v : Word) (sz : Size) : (storeData s a v sz).imem = s.imem := by cases sz <;> rfl
@[simp] theorem storeData_status (s : State) (a : Nat) (v : Word) (sz : Size) : (storeData s a v sz).status = s.status := by cases sz <;> rfl
@[simp] theorem storeData_draws (s : State) (a : Nat) (v : Word) (sz : Size) : (storeData s a v sz).draws = s.draws := by cases sz <;> rfl
@[simp] theorem storeData_cfg (s : State) (a : Nat) (v : Word) (sz : Size) : (storeData s a v sz).cfg = s.cfg := by cases sz <;> rfl

/-! `applyEffect` and `applyEffects`: a side effect leaves every field but the registers -/

@[simp] theorem applyEffect_pc (s : State) (e : SideEffect) : (applyEffect s e).pc = s.pc := by unfold applyEffect; split <;> rfl
@[simp] theorem applyEffect_carry (s : State) (e : SideEffect) : (applyEffect s e).carry = s.carry := by unfold applyEffect; split <;> rfl
@[simp] theorem applyEffect_dmem (s : State) (e : SideEffect) : (applyEffect s e).dmem = s.dmem := by unfold applyEffect; split <;> rfl
@[simp] theorem applyEffect_imem (s : State) (e : SideEffect) : (applyEffect s e).imem = s.imem := by unfold applyEffect; split <;> rfl
@[simp] theorem applyEffect_status (s : State) (e : SideEffect) : (applyEffect s e).status = s.status := by unfold applyEffect; split <;> rfl
@[simp] theorem applyEffect_draws (s : State) (e : SideEffect) : (applyEffect s e).draws = s.draws := by unfold applyEffect; split <;> rfl
@[simp] theorem applyEffect_cfg (s : State) (e : SideEffect) : (applyEffect s e).cfg = s.cfg := by unfold applyEffect; split <;> rfl

@[simp] theorem applyEffects_nil (s : State) : applyEffects [] s = s := rfl
@[simp] theorem applyEffects_cons (e : SideEffect) (es : List SideEffect) (s : State) :
    applyEffects (e :: es) s = applyEffects es (applyEffect s e) := rfl

@[simp] theorem applyEffects_pc (es : List SideEffect) (s : State) : (applyEffects es s).pc = s.pc := by
  induction es generalizing s <;> simp [*]
@[simp] theorem applyEffects_carry (es : List SideEffect) (s : State) : (applyEffects es s).carry = s.carry := by
  induction es generalizing s <;> simp [*]
@[simp] theorem applyEffects_dmem (es : List SideEffect) (s : State) : (applyEffects es s).dmem = s.dmem := by
  induction es generalizing s <;> simp [*]
@[simp] theorem applyEffects_imem (es : List SideEffect) (s : State) : (applyEffects es s).imem = s.imem := by
  induction es generalizing s <;> simp [*]
@[simp] theorem applyEffects_status (es : List SideEffect) (s : State) : (applyEffects es s).status = s.status := by
  induction es generalizing s <;> simp [*]
@[simp] theorem applyEffects_draws (es : List SideEffect) (s : State) : (applyEffects es s).draws = s.draws := by
  induction es generalizing s <;> simp [*]
@[simp] theorem applyEffects_cfg (es : List SideEffect) (s : State) : (applyEffects es s).cfg = s.cfg := by
  induction es generalizing s <;> simp [*]

/-! Registers -/

@[simp] theorem readReg_writeReg_self (s : State) (r : Reg) (v : Word) : readReg (writeReg s r v) r = v := by
  simp [readReg, writeReg]

@[simp] theorem readReg_writeReg_of_ne (s : State) {r q : Reg} (v : Word) (h : q ≠ r) :
    readReg (writeReg s r v) q = readReg s q := by
  simp only [readReg, writeReg, Fin.getElem_fin]
  exact Vector.getElem_set_ne _ _ (fun e => h (Fin.ext e.symm))

theorem readReg_congr {s t : State} (h : t.regs = s.regs) (r : Reg) : readReg t r = readReg s r := by
  simp [readReg, h]

@[simp] theorem readReg_drawn (s : State) (r : Reg) : readReg (drawn s) r = readReg s r := rfl
@[simp] theorem readReg_writeByte (s : State) (a : Nat) (v : Byte) (r : Reg) : readReg (writeByte s a v) r = readReg s r := rfl

end Sys2Proof.Machine
end

