-- ==== Sys2Proof/Laws/Memory.lean ====
section
/-! SUPPORT. The laws of memories as canonical lists, and of the bytes of data memory. -/

namespace Sys2Proof.Machine

variable {α : Type}

@[simp] theorem Memory.get_nil (a : Nat) : Memory.get ([] : Memory α) a = none := rfl

@[simp] theorem Memory.get_put_self (m : Memory α) (a : Nat) (v : α) : Memory.get (Memory.put m a v) a = some v := by
  induction m with
  | nil => simp [Memory.put, Memory.get]
  | cons c m ih =>
    obtain ⟨k, w⟩ := c
    simp only [Memory.put]
    split
    · simp [Memory.get]
    · split
      · next h => simp [Memory.get, h]
      · next h => simp [Memory.get, h, ih]

@[simp] theorem Memory.get_put_of_ne (m : Memory α) {a b : Nat} (v : α) (h : b ≠ a) :
    Memory.get (Memory.put m a v) b = Memory.get m b := by
  induction m with
  | nil => simp [Memory.put, Memory.get, Ne.symm h]
  | cons c m ih =>
    obtain ⟨k, w⟩ := c
    simp only [Memory.put]
    split
    · simp [Memory.get, Ne.symm h]
    · split
      · next e => subst e; simp [Memory.get, Ne.symm h]
      · simp [Memory.get, ih]

/-- An entry of a memory after `put` is the new one or an old one. -/
theorem Memory.mem_put {m : Memory α} {a : Nat} {v : α} {c : Nat × α} (h : c ∈ Memory.put m a v) :
    c = (a, v) ∨ c ∈ m := by
  induction m with
  | nil => simpa [Memory.put] using h
  | cons x m ih =>
    obtain ⟨k, w⟩ := x
    simp only [Memory.put] at h
    split at h
    · simpa using h
    · split at h
      · next e => subst e; simp only [List.mem_cons] at h ⊢; tauto
      · simp only [List.mem_cons] at h ⊢
        rcases h with h | h
        · exact .inr (.inl h)
        · rcases ih h with h | h
          · exact .inl h
          · exact .inr (.inr h)

/-- `put` keeps the canonical form. -/
theorem Memory.wf_put {m : Memory α} (a : Nat) (v : α) (h : Memory.wf m) : Memory.wf (Memory.put m a v) := by
  induction m with
  | nil => simp [Memory.wf, Memory.put]
  | cons c m ih =>
    obtain ⟨k, w⟩ := c
    simp only [Memory.wf, List.map_cons, List.pairwise_cons] at h
    obtain ⟨hk, hm⟩ := h
    simp only [Memory.put]
    split
    · next ha =>
      simp only [Memory.wf, List.map_cons, List.pairwise_cons, List.mem_cons]
      refine ⟨?_, hk, hm⟩
      rintro b (rfl | hb)
      · exact ha
      · exact Nat.lt_trans ha (hk b hb)
    · next ha =>
      split
      · exact List.pairwise_cons.mpr ⟨hk, hm⟩
      · next hne =>
        refine List.pairwise_cons.mpr ⟨fun b hb => ?_, ih hm⟩
        obtain ⟨c, hc, rfl⟩ := List.mem_map.mp hb
        rcases Memory.mem_put hc with rfl | hc
        · simp only; omega
        · exact hk _ (List.mem_map.mpr ⟨c, hc, rfl⟩)

/-- The memories of the state after reset are canonical. -/
theorem reset_dmem_wf : Memory.wf State.reset.dmem := List.Pairwise.nil
theorem reset_imem_wf : Memory.wf State.reset.imem := List.Pairwise.nil

/-! Bytes of data memory -/

@[simp] theorem byteAt_writeByte_self (s : State) (a : Nat) (v : Byte) : byteAt (writeByte s a v) a = v := by
  simp [byteAt, writeByte]

@[simp] theorem byteAt_writeByte_of_ne (s : State) {a b : Nat} (v : Byte) (h : b ≠ a) :
    byteAt (writeByte s a v) b = byteAt s b := by
  simp [byteAt, writeByte, h]

theorem byteAt_congr {s t : State} (h : t.dmem = s.dmem) (a : Nat) : byteAt t a = byteAt s a := by
  simp [byteAt, h]

/-- What every byte reads after a store (R43): the low byte at `a`, for a word the high byte at `a + 1`, every other byte as before. -/
theorem byteAt_storeData (s : State) (a b : Nat) (v : Word) (sz : Size) :
    byteAt (storeData s a v sz) b =
      if b = a then lowByte v else if sz = .word ∧ b = a + 1 then highByte v else byteAt s b := by
  cases sz
  · by_cases h : b = a <;> simp [storeData, h]
  · by_cases h : b = a
    · subst h; simp [storeData]
    · by_cases h' : b = a + 1 <;> simp [storeData, h, h']

/-- An entry of data memory after a store is one of the stored bytes or an old entry. -/
theorem mem_storeData {s : State} {a : Nat} {v : Word} {sz : Size} {c : Host.Cell} (h : c ∈ (storeData s a v sz).dmem) :
    (∃ k < sz.bytes, c.1 = a + k) ∨ c ∈ s.dmem := by
  cases sz
  · rcases Memory.mem_put h with rfl | h
    · exact .inl ⟨0, by decide, rfl⟩
    · exact .inr h
  · rcases Memory.mem_put h with rfl | h
    · exact .inl ⟨1, by decide, rfl⟩
    · rcases Memory.mem_put h with rfl | h
      · exact .inl ⟨0, by decide, rfl⟩
      · exact .inr h

/-- A store keeps the canonical form of data memory. -/
theorem storeData_dmem_wf {s : State} (a : Nat) (v : Word) (sz : Size) (h : Memory.wf s.dmem) :
    Memory.wf (storeData s a v sz).dmem := by
  cases sz
  · exact Memory.wf_put _ _ h
  · exact Memory.wf_put _ _ (Memory.wf_put _ _ h)

end Sys2Proof.Machine
end

