-- ==== Sys2Proof/Laws/Ops.lean ====
section
/-! SUPPORT. What each shared operation can do, said once: when it answers a next state, and which. -/

namespace Sys2Proof.Machine

/-! Outcomes -/

@[simp] theorem andThen_next {α β : Type} (a : α) (f : α → Result β) : andThen (.next a) f = f a := rfl
@[simp] theorem andThen_fault {α β : Type} (r : Fault) (f : α → Result β) : andThen (.fault r) f = .fault r := rfl
@[simp] theorem andThen_refused {α β : Type} (r : Refusal) (f : α → Result β) : andThen (.refused r) f = .refused r := rfl
@[simp] theorem raise_eq {α : Type} (r : Fault) : (raise r : Result α) = .fault r := rfl

theorem andThen_eq_next {α β : Type} {o : Result α} {f : α → Result β} {b : β} :
    andThen o f = .next b ↔ ∃ a, o = .next a ∧ f a = .next b := by
  cases o <;> simp [andThen]

/-! The program counter -/

/-- `goto` stores a valid target and changes nothing else (R27). -/
theorem goto_eq_next {t : Int} {s u : State} (h : goto t s = .next u) : validPc s t ∧ u = { s with pc := t.toNat } := by
  unfold goto at h
  split at h
  · next hv => exact ⟨hv, by simpa using h.symm⟩
  · cases h

theorem goto_of_valid {t : Int} {s : State} (h : validPc s t) : goto t s = .next { s with pc := t.toNat } := if_pos h

theorem goto_of_not_valid {t : Int} {s : State} (h : ¬ validPc s t) : goto t s = .fault (.busError t) := if_neg h

/-- `advance` moves `pc` on and changes nothing else (R26). -/
theorem advance_eq_next {len : Nat} {s u : State} (h : advance len s = .next u) :
    roomFor s len ∧ u = { s with pc := s.pc + len } := by
  obtain ⟨⟨_, hlt⟩, rfl⟩ := goto_eq_next h
  exact ⟨by unfold roomFor; exact_mod_cast hlt, by congr⟩

theorem advance_of_room {len : Nat} {s : State} (h : roomFor s len) : advance len s = .next { s with pc := s.pc + len } :=
  goto_of_valid (t := (s.pc : Int) + len) ⟨by omega, by unfold roomFor at h; exact_mod_cast h⟩

theorem advance_of_no_room {len : Nat} {s : State} (h : ¬ roomFor s len) :
    advance len s = .fault (.busError (s.pc + len)) :=
  goto_of_not_valid fun ⟨_, hlt⟩ => h (by unfold roomFor; exact_mod_cast hlt)

/-! Register checks -/

/-- Every number of the list names a register, or the check raises for the first that does not (R22). -/
theorem checkRegs_eq_next {s : State} {ns : List Nat} : checkRegs s ns = .next () ↔ ∀ n ∈ ns, hasReg s n = true := by
  induction ns with
  | nil => simp [checkRegs]
  | cons n ns ih => by_cases h : hasReg s n = true <;> simp [checkRegs, h, ih]

theorem checkRegs_missing {s : State} {ns : List Nat} (h : ∃ n ∈ ns, hasReg s n = false) :
    ∃ n ∈ ns, hasReg s n = false ∧ checkRegs s ns = .fault (.illegalRegister n) := by
  induction ns with
  | nil => simp at h
  | cons n ns ih =>
    by_cases hn : hasReg s n = true
    · obtain ⟨m, hm, hf⟩ := h
      have hm' : m ∈ ns := by
        rcases List.mem_cons.mp hm with rfl | hm
        · simp [hn] at hf
        · exact hm
      obtain ⟨k, hk, hkf, hc⟩ := ih ⟨m, hm', hf⟩
      exact ⟨k, List.mem_cons_of_mem _ hk, hkf, by simp [checkRegs, hn, hc]⟩
    · exact ⟨n, by simp, by simpa using hn, by simp [checkRegs, hn]⟩

/-! Data memory -/

theorem checkByte_of_plain {s : State} {a : Nat} (h : plainByte s a) : checkByte s a = .next () := by
  simp [checkByte, h.2, Nat.not_lt.mpr (Nat.le_of_lt_succ h.1)]

theorem checkByte_of_missing {s : State} {a : Nat} (h : missingByte s a) : checkByte s a = .fault (.busError a) := by
  unfold checkByte
  split
  · rfl
  · rcases h with h | h
    · omega
    · simp [h]

theorem checkByte_eq_next {s : State} {a : Nat} (h : checkByte s a = .next ()) : plainByte s a := by
  unfold checkByte at h
  split at h
  · cases h
  · split at h
    · cases h
    · next hk => exact ⟨by omega, hk⟩
    · cases h

theorem checkBytes_eq_next {s : State} {a n : Nat} : checkBytes s a n = .next () ↔ ∀ k < n, plainByte s (a + k) := by
  induction n generalizing a with
  | zero => simp [checkBytes]
  | succ n ih =>
    rw [checkBytes, andThen_eq_next]
    constructor
    · rintro ⟨_, h0, h1⟩ k hk
      rcases k with _ | k
      · exact checkByte_eq_next h0
      · have := ih.mp h1 k (by omega)
        rwa [show a + 1 + k = a + (k + 1) by omega] at this
    · intro h
      refine ⟨(), checkByte_of_plain (by simpa using h 0 (by omega)), ih.mpr fun k hk => ?_⟩
      have := h (k + 1) (by omega)
      rwa [show a + (k + 1) = a + 1 + k by omega] at this

/-- `MemRead` answers the value at the address when every byte is plain memory, and only then (R42). -/
theorem memRead_eq_next {s : State} {a : Nat} {sz : Size} {v : Word} :
    memRead s a sz = .next v ↔ plainData s a sz ∧ v = dataAt s a sz := by
  rw [memRead, andThen_eq_next]
  constructor
  · rintro ⟨_, h, e⟩
    exact ⟨checkBytes_eq_next.mp h, by simpa using e.symm⟩
  · rintro ⟨h, rfl⟩
    exact ⟨(), checkBytes_eq_next.mpr h, rfl⟩

/-- `MemWrite` stores the bytes when every byte is plain memory, and only then (R43). -/
theorem memWrite_eq_next {s t : State} {a : Nat} {sz : Size} {v : Word} :
    memWrite s a sz v = .next t ↔ plainData s a sz ∧ t = storeData s a v sz := by
  rw [memWrite, andThen_eq_next]
  constructor
  · rintro ⟨_, h, e⟩
    exact ⟨checkBytes_eq_next.mp h, by simpa using e.symm⟩
  · rintro ⟨h, rfl⟩
    exact ⟨(), checkBytes_eq_next.mpr h, rfl⟩

/-! NOP side effects -/

/-- A register after side effects is what it was, or it exists and one of them names it. -/
theorem readReg_applyEffects (es : List SideEffect) (s : State) (r : Reg) :
    readReg (applyEffects es s) r = readReg s r ∨ hasReg s r = true ∧ ∃ v, ⟨r, v⟩ ∈ es := by
  induction es generalizing s with
  | nil => exact .inl rfl
  | cons e es ih =>
    rcases ih (applyEffect s e) with h | ⟨h, v, hv⟩
    · rw [applyEffects_cons, h]
      unfold applyEffect
      split
      · next he =>
        by_cases hr : r = e.reg
        · exact .inr ⟨hr ▸ he, e.value, by simp [hr]⟩
        · exact .inl (readReg_writeReg_of_ne s _ hr)
      · exact .inl rfl
    · exact .inr ⟨by simpa [hasReg] using h, v, List.mem_cons_of_mem _ hv⟩

/-! The shapes -/

/-- What an ALU instruction can do (R120, R200). -/
theorem finishAlu_eq_next {len : Nat} {d : Reg} {v : Word} {c : Bool} {s u : State} (h : finishAlu len d v c s = .next u) :
    roomFor s len ∧ u = { writeReg s d v with carry := c, pc := s.pc + len } := by
  obtain ⟨hr, rfl⟩ := advance_eq_next h
  exact ⟨hr, rfl⟩

/-- What a load without write-back can do (R141, R142). -/
theorem loadIndexed_eq_next {len : Nat} {sz : Size} {d a : Reg} {S : Int} {s u : State}
    (h : loadIndexed len sz d a S s = .next u) :
    plainData s (addressPlus s a S).toNat sz ∧ roomFor s len ∧
      u = { writeReg s d (dataAt s (addressPlus s a S).toNat sz) with pc := s.pc + len } := by
  obtain ⟨v, hv, hu⟩ := andThen_eq_next.mp h
  obtain ⟨hp, rfl⟩ := memRead_eq_next.mp hv
  obtain ⟨hr, rfl⟩ := advance_eq_next hu
  exact ⟨hp, hr, rfl⟩

/-- What a load with write-back can do (R143 to R146): the register that is both destination and base gets some value. -/
theorem loadWriteBack_eq_next {len : Nat} {sz : Size} {ea : Word} {d a : Reg} {s u : State}
    (h : loadWriteBack len sz ea d a s = .next u) :
    plainData s ea.toNat sz ∧ roomFor s len ∧
      (d ≠ a ∧ u = { writeReg (writeReg s d (dataAt s ea.toNat sz)) a ea with pc := s.pc + len } ∨
        d = a ∧ ∃ v, u = { drawn (writeReg s d v) with pc := s.pc + len }) := by
  unfold loadWriteBack at h
  split at h
  · next hda =>
    split at h
    · cases h
    · obtain ⟨v, hv, hu⟩ := andThen_eq_next.mp h
      obtain ⟨hp, -⟩ := memRead_eq_next.mp hv
      obtain ⟨hr, rfl⟩ := advance_eq_next hu
      exact ⟨hp, hr, .inr ⟨hda, _, rfl⟩⟩
  · next hda =>
    obtain ⟨v, hv, hu⟩ := andThen_eq_next.mp h
    obtain ⟨hp, rfl⟩ := memRead_eq_next.mp hv
    obtain ⟨hr, rfl⟩ := advance_eq_next hu
    exact ⟨hp, hr, .inl ⟨hda, rfl⟩⟩

/-- What a store without write-back can do (R147, R148). -/
theorem storeIndexed_eq_next {len : Nat} {sz : Size} {d a : Reg} {S : Int} {s u : State}
    (h : storeIndexed len sz d a S s = .next u) :
    plainData s (addressPlus s d S).toNat sz ∧ roomFor s len ∧
      u = { storeData s (addressPlus s d S).toNat (readReg s a) sz with pc := s.pc + len } := by
  obtain ⟨t, ht, hu⟩ := andThen_eq_next.mp h
  obtain ⟨hp, rfl⟩ := memWrite_eq_next.mp ht
  obtain ⟨hr, rfl⟩ := advance_eq_next hu
  exact ⟨hp, by simpa [roomFor] using hr, by simp⟩

/-- What a store with post-increment can do (R149, R150). -/
theorem storePost_eq_next {len : Nat} {sz : Size} {d a : Reg} {S : Int} {s u : State}
    (h : storePost len sz d a S s = .next u) :
    plainData s (addressPlus s d S).toNat sz ∧ roomFor s len ∧
      u = { writeReg (storeData s (addressPlus s d S).toNat (readReg s a) sz) d (addressPlus s d S) with pc := s.pc + len } := by
  obtain ⟨t, ht, hu⟩ := andThen_eq_next.mp h
  obtain ⟨hp, rfl⟩ := memWrite_eq_next.mp ht
  obtain ⟨hr, rfl⟩ := advance_eq_next hu
  exact ⟨hp, by simpa [roomFor] using hr, by simp⟩

/-- What a store with pre-decrement can do (R151, R152): where data and base are one register, the data is one of two values. -/
theorem storePre_eq_next {len : Nat} {sz : Size} {d a : Reg} {S : Int} {s u : State}
    (h : storePre len sz d a S s = .next u) :
    plainData s (addressMinus s d S).toNat sz ∧ roomFor s len ∧
      ∃ v n, (d ≠ a → v = readReg s a ∧ n = s.draws) ∧ (v = readReg s a ∨ v = addressMinus s d S) ∧
        u = { writeReg (storeData s (addressMinus s d S).toNat v sz) d (addressMinus s d S) with
          pc := s.pc + len, draws := n } := by
  unfold storePre at h
  split at h
  · next hda =>
    split at h
    · cases h
    · obtain ⟨t, ht, hu⟩ := andThen_eq_next.mp h
      obtain ⟨hp, rfl⟩ := memWrite_eq_next.mp ht
      obtain ⟨hr, rfl⟩ := advance_eq_next hu
      refine ⟨hp, by simpa [roomFor] using hr,
        (if Config.sameRegStoresOld s.draws then readReg s a else addressMinus s d S), s.draws + 1,
        fun hne => absurd hda hne, ?_, by simp [drawn, writeReg]⟩
      split <;> simp
  · next hda =>
    obtain ⟨t, ht, hu⟩ := andThen_eq_next.mp h
    obtain ⟨hp, rfl⟩ := memWrite_eq_next.mp ht
    obtain ⟨hr, rfl⟩ := advance_eq_next hu
    exact ⟨hp, by simpa [roomFor] using hr, _, s.draws, fun _ => ⟨rfl, rfl⟩, .inl rfl, by simp [writeReg]⟩

/-- What a conditional transfer can do (R160(c)). -/
theorem branchIf_eq_next {len : Nat} {c : Cond} {t : Int} {a b : Reg} {s u : State} (h : branchIf len c t a b s = .next u) :
    (c.holds (readReg s a) (readReg s b) = true ∧ validPc s t ∧ u = { s with pc := t.toNat }) ∨
      (c.holds (readReg s a) (readReg s b) = false ∧ roomFor s len ∧ u = { s with pc := s.pc + len }) := by
  unfold branchIf at h
  split at h
  · next hc => exact .inl ⟨hc, goto_eq_next h⟩
  · next hc => exact .inr ⟨by simpa using hc, advance_eq_next h⟩

/-- What a transfer with link can do (R162, R170). -/
theorem branchLink_eq_next {len : Nat} {t : Int} {b : Reg} {s u : State} (h : branchLink len t b s = .next u) :
    validPc s t ∧ u = { writeReg s b (linkValue s len) with pc := t.toNat } := by
  obtain ⟨v, hv, hu⟩ := andThen_eq_next.mp h
  obtain ⟨hp, rfl⟩ := goto_eq_next hv
  cases hu
  exact ⟨hp, rfl⟩

/-- What an implementation-defined NOP can do (R121, R201): its side effects and the advance, with one more value drawn or not. -/
theorem implementationNop_eq_next {len : Nat} {d : Reg} {I : Nat} {s u : State} (h : implementationNop len d I s = .next u) :
    roomFor s len ∧ ∃ n, u = { applyEffects (nopEffects s d I) { s with draws := n } with pc := s.pc + len } := by
  cases he : nopPolicy s.cfg d I with
  | refuse => simp [implementationNop, he] at h
  | effects es =>
    simp only [implementationNop, nopEffects, he] at h ⊢
    obtain ⟨hr, rfl⟩ := advance_eq_next h
    exact ⟨by simpa [roomFor] using hr, s.draws, by simp⟩
  | free =>
    simp only [implementationNop, nopEffects, he] at h ⊢
    obtain ⟨hr, rfl⟩ := advance_eq_next h
    exact ⟨by simpa [roomFor] using hr, s.draws + 1, by simp [drawn]⟩

/-- What a return from exception can do (R190). -/
theorem returnFromException_eq_next {d : Reg} {s u : State} (h : returnFromException d s = .next u) :
    s.cfg.rteDefined = true ∧ validPc s (readReg s d).toNat ∧ u = { s with pc := (readReg s d).toNat } := by
  unfold returnFromException at h
  split at h
  · next hd => exact ⟨hd, goto_eq_next h⟩
  · cases h

end Sys2Proof.Machine
end

