-- ==== Sys2Proof/Laws/Exec.lean ====
section
/-! SUPPORT. What any instruction, and any step, can do at most, said once for all 102 instructions. -/

namespace Sys2Proof.Machine

/-- What an instruction other than the break can do when it answers a next state, by the rule of its own and, for a NOP, by its side
effects. -/
structure Ordinary (i : Instr) (s t : State) : Prop where
  pc : t.pc < 2 ^ s.cfg.pcw
  carry : writesCarry i = false → t.carry = s.carry
  dmem : writesData i = false → t.dmem = s.dmem
  cells : ∀ c ∈ t.dmem, c ∈ s.dmem ∨ plainByte s c.1
  wf : Memory.wf s.dmem → Memory.wf t.dmem
  regs : ∀ r, r ∉ mayWrite i → readReg t r = readReg s r ∨ hasReg s r = true ∧ ∃ v, ⟨r, v⟩ ∈ effectsOf i s
  imem : t.imem = s.imem
  status : t.status = s.status
  cfg : t.cfg = s.cfg

variable {i : Instr} {len : Nat} {sz : Size} {d a b : Reg} {s t : State}

theorem toNat_lt_of_validPc {u : Int} (h : validPc s u) : u.toNat < 2 ^ s.cfg.pcw := by
  obtain ⟨h0, h1⟩ := h
  zify
  rw [Int.toNat_of_nonneg h0]
  exact_mod_cast h1

/-- A transfer, or an advance, that changes nothing but `pc`. -/
theorem ordinary_pc {p : Nat} (hp : p < 2 ^ s.cfg.pcw) : Ordinary i s { s with pc := p } :=
  ⟨hp, fun _ => rfl, fun _ => rfl, fun _ => .inl, id, fun _ _ => .inl rfl, rfl, rfl, rfl⟩

/-- A write of one register the instruction may write. -/
theorem ordinary_write {p n : Nat} {v : Word} {c : Bool} (hp : p < 2 ^ s.cfg.pcw) (hc : writesCarry i = false → c = s.carry)
    (hd : d ∈ mayWrite i) : Ordinary i s { writeReg s d v with carry := c, pc := p, draws := n } :=
  ⟨hp, hc, fun _ => rfl, fun _ => .inl, id, fun _ hr => .inl (readReg_writeReg_of_ne s v fun e => hr (e ▸ hd)), rfl, rfl, rfl⟩

theorem ordinary_finishAlu {v : Word} {c : Bool} (h : finishAlu len d v c s = .next t)
    (hc : writesCarry i = false → c = s.carry) (hd : d ∈ mayWrite i) : Ordinary i s t := by
  obtain ⟨hr, rfl⟩ := finishAlu_eq_next h
  exact ordinary_write hr hc hd

theorem ordinary_loadIndexed {S : Int} (h : loadIndexed len sz d a S s = .next t) (hd : d ∈ mayWrite i) : Ordinary i s t := by
  obtain ⟨-, hr, rfl⟩ := loadIndexed_eq_next h
  exact ordinary_write hr (fun _ => rfl) hd

theorem ordinary_loadWriteBack {ea : Word} (h : loadWriteBack len sz ea d a s = .next t) (hd : d ∈ mayWrite i)
    (ha : a ∈ mayWrite i) : Ordinary i s t := by
  obtain ⟨-, hr, (⟨-, rfl⟩ | ⟨-, v, rfl⟩)⟩ := loadWriteBack_eq_next h
  · refine ⟨hr, fun _ => rfl, fun _ => rfl, fun _ => .inl, id, fun r hn => .inl ?_, rfl, rfl, rfl⟩
    exact (readReg_writeReg_of_ne _ _ fun (e : r = a) => hn (e ▸ ha)).trans (readReg_writeReg_of_ne s _ fun e => hn (e ▸ hd))
  · exact ordinary_write hr (fun _ => rfl) hd

/-- A store, of which every byte exists, and a write-back. -/
theorem ordinary_store {p n ea : Nat} {v : Word} {rs : Vector Word 64} (hp : p < 2 ^ s.cfg.pcw) (hm : plainData s ea sz)
    (hw : writesData i = true) (hr : ∀ r : Reg, r ∉ mayWrite i → rs[r] = s.regs[r]) :
    Ordinary i s { storeData s ea v sz with regs := rs, pc := p, draws := n } :=
  ⟨hp, fun _ => storeData_carry .., fun h => (by simp [hw] at h),
    fun _ hc => (mem_storeData hc).symm.imp_right fun ⟨k, hk, e⟩ => e ▸ hm k hk, storeData_dmem_wf ea v sz,
    fun r hn => .inl (hr r hn), storeData_imem .., storeData_status .., storeData_cfg ..⟩

theorem regs_writeReg_of_not_mem {v : Word} (hd : d ∈ mayWrite i) (r : Reg) (hr : r ∉ mayWrite i) :
    (writeReg s d v).regs[r] = s.regs[r] :=
  readReg_writeReg_of_ne s v fun e => hr (e ▸ hd)

theorem ordinary_storeIndexed {S : Int} (h : storeIndexed len sz d a S s = .next t) (hw : writesData i = true) :
    Ordinary i s t := by
  obtain ⟨hp, hr, rfl⟩ := storeIndexed_eq_next h
  exact ordinary_store hr hp hw fun r _ => by simp

theorem ordinary_storePost {S : Int} (h : storePost len sz d a S s = .next t) (hw : writesData i = true)
    (hd : d ∈ mayWrite i) : Ordinary i s t := by
  obtain ⟨hp, hr, rfl⟩ := storePost_eq_next h
  exact ordinary_store hr hp hw fun r hn => (regs_writeReg_of_not_mem hd r hn).trans (by simp)

theorem ordinary_storePre {S : Int} (h : storePre len sz d a S s = .next t) (hw : writesData i = true)
    (hd : d ∈ mayWrite i) : Ordinary i s t := by
  obtain ⟨hp, hr, v, n, -, -, rfl⟩ := storePre_eq_next h
  exact ordinary_store hr hp hw fun r hn => (regs_writeReg_of_not_mem hd r hn).trans (by simp)

theorem ordinary_goto {u : Int} (h : goto u s = .next t) : Ordinary i s t := by
  obtain ⟨hv, rfl⟩ := goto_eq_next h
  exact ordinary_pc (toNat_lt_of_validPc hv)

theorem ordinary_advance (h : advance len s = .next t) : Ordinary i s t := ordinary_goto h

theorem ordinary_branchIf {c : Cond} {u : Int} (h : branchIf len c u a b s = .next t) : Ordinary i s t := by
  unfold branchIf at h
  split at h
  · exact ordinary_goto h
  · exact ordinary_advance h

theorem ordinary_branchLink {u : Int} (h : branchLink len u b s = .next t) (hb : b ∈ mayWrite i) : Ordinary i s t := by
  obtain ⟨hv, rfl⟩ := branchLink_eq_next h
  exact ordinary_write (toNat_lt_of_validPc hv) (fun _ => rfl) hb

theorem ordinary_implementationNop {I : Nat} (h : implementationNop len d I s = .next t) (he : effectsOf i s = nopEffects s d I) :
    Ordinary i s t := by
  obtain ⟨hr, n, rfl⟩ := implementationNop_eq_next h
  exact ⟨hr, fun _ => by simp, fun _ => by simp, fun _ => by simp +contextual, by simp,
    fun r _ => he ▸ readReg_applyEffects _ { s with draws := n } r, by simp, by simp, by simp⟩

/-- Everything an instruction can do: the break halts, and every other instruction is ordinary. -/
theorem exec_eq_next (h : exec i s = .next t) : (i = .nop16 0 0 ∧ t = halt s) ∨ Ordinary i s t := by
  cases i
  case nop16 d I =>
    simp only [exec, execNop16] at h
    split at h
    · next hd =>
      cases h
      obtain ⟨hd, rfl⟩ := hd
      exact .inl ⟨by rw [show d = 0 from Fin.ext hd], rfl⟩
    · split at h
      · exact .inr (ordinary_advance h)
      · next h0 h1 => exact .inr (ordinary_implementationNop h (if_neg (by tauto)))
  case rte d =>
    obtain ⟨-, hv, rfl⟩ := returnFromException_eq_next h
    exact .inr (ordinary_pc (toNat_lt_of_validPc hv))
  all_goals
    refine .inr ?_
    first
    | exact ordinary_finishAlu h (fun hc => by first | rfl | cases hc) (by simp [mayWrite])
    | exact ordinary_loadIndexed h (by simp [mayWrite])
    | exact ordinary_loadWriteBack h (by simp [mayWrite]) (by simp [mayWrite])
    | exact ordinary_storeIndexed h rfl
    | exact ordinary_storePost h rfl (by simp [mayWrite])
    | exact ordinary_storePre h rfl (by simp [mayWrite])
    | exact ordinary_goto h
    | exact ordinary_branchIf h
    | exact ordinary_branchLink h (by simp [mayWrite])
    | exact ordinary_implementationNop h rfl

/-- A register an instruction may write is one of the registers it names. -/
theorem mem_regFields_of_mem_mayWrite {r : Reg} (h : r ∈ mayWrite i) : r.val ∈ regFields i := by
  cases i <;> simp [mayWrite, regFields] at * <;> tauto

/-- What a step that answers a next state has done: the processor ran, and an instruction whose registers all exist was executed. -/
theorem step_eq_next (h : step s = .next t) :
    s.status = .running ∧ ∃ i, (∀ n ∈ regFields i, hasReg s n = true) ∧ exec i s = .next t := by
  unfold step at h
  split at h
  · cases h
  · next hs =>
    obtain ⟨_, -, h⟩ := andThen_eq_next.mp h
    obtain ⟨i, -, h⟩ := andThen_eq_next.mp h
    obtain ⟨_, hc, h⟩ := andThen_eq_next.mp h
    exact ⟨hs, i, checkRegs_eq_next.mp hc, h⟩

/-- `IFetch` answers the word at an address in range that exists (R44). -/
theorem ifetch_of_fetchable {w : Nat} (h : fetchable s w) : ifetch s w = .next (wordAt s w) := if_pos h

theorem ifetch_of_not_fetchable {w : Nat} (h : ¬ fetchable s w) : ifetch s w = .fault (.busError w) := if_neg h

/-- Words that stand at `pc` and decode with none left over are what the step fetches. -/
theorem fetch_of_codeAt {ws : List Word} (h : codeAt s s.pc ws) (hd : decode ws = .ok (i, [])) :
    fetch s = .next ws ∧ decodeFetched ws = .next i := by
  refine ⟨?_, by simp [decodeFetched, hd]⟩
  match ws, h with
  | [], _ => simp [decode] at hd
  | [w], ⟨h1, h2, _⟩ =>
    cases hl : isLong w
    · simp [fetch, ifetch_of_fetchable h1, h2, hl]
    · simp [decode, hl] at hd
  | [w, x], ⟨h1, h2, h3, h4, _⟩ =>
    cases hl : isLong w
    · simp only [decode, hl] at hd
      cases h : decode16 w <;> simp_all
    · simp [fetch, ifetch_of_fetchable h1, ifetch_of_fetchable h3, h2, h4, hl]
  | w :: x :: y :: _, _ =>
    simp only [decode] at hd
    split at hd
    · cases h : decode32 w x <;> simp_all
    · cases h : decode16 w <;> simp_all

end Sys2Proof.Machine
end

