-- ==== Sys2Proof/Laws/PerInstr.lean ====
section
/-! SUPPORT. Facts about every instruction as syntax, one lemma per constructor. -/

namespace Sys2Proof.Laws.EncodedLength

/-- The encoder writes as many words as the instruction's line says (R70, R103). -/
def Statement (i : Instr) : Prop := (encode i).length = (Machine.asm i).words

theorem nop16 (d : Reg) (I : Nat) : Statement (.nop16 d I) := rfl
theorem add16 (d a b : Reg) : Statement (.add16 d a b) := rfl
theorem sub16 (d a b : Reg) : Statement (.sub16 d a b) := rfl
theorem and16 (d a b : Reg) : Statement (.and16 d a b) := rfl
theorem or16 (d a b : Reg) : Statement (.or16 d a b) := rfl
theorem xor16 (d a b : Reg) : Statement (.xor16 d a b) := rfl
theorem asr16 (d a b : Reg) : Statement (.asr16 d a b) := rfl
theorem lsl16 (d a b : Reg) : Statement (.lsl16 d a b) := rfl
theorem lsr16 (d a b : Reg) : Statement (.lsr16 d a b) := rfl
theorem mov16 (d a : Reg) : Statement (.mov16 d a) := rfl
theorem addi16 (d a : Reg) (I : Nat) : Statement (.addi16 d a I) := rfl
theorem subi16 (d a : Reg) (I : Nat) : Statement (.subi16 d a I) := rfl
theorem asri16 (d a : Reg) (n : Nat) : Statement (.asri16 d a n) := rfl
theorem lsli16 (d a : Reg) (n : Nat) : Statement (.lsli16 d a n) := rfl
theorem lsri16 (d a : Reg) (n : Nat) : Statement (.lsri16 d a n) := rfl
theorem movi16 (d : Reg) (I : Nat) : Statement (.movi16 d I) := rfl
theorem ldb16 (d a : Reg) (S : Int) : Statement (.ldb16 d a S) := rfl
theorem ldw16 (d a : Reg) (S : Int) : Statement (.ldw16 d a S) := rfl
theorem ldbPost16 (d a : Reg) (S : Int) : Statement (.ldbPost16 d a S) := rfl
theorem ldwPost16 (d a : Reg) (S : Int) : Statement (.ldwPost16 d a S) := rfl
theorem ldbPre16 (d a : Reg) (S : Int) : Statement (.ldbPre16 d a S) := rfl
theorem ldwPre16 (d a : Reg) (S : Int) : Statement (.ldwPre16 d a S) := rfl
theorem stb16 (d a : Reg) (S : Int) : Statement (.stb16 d a S) := rfl
theorem stw16 (d a : Reg) (S : Int) : Statement (.stw16 d a S) := rfl
theorem stbPost16 (d a : Reg) (S : Int) : Statement (.stbPost16 d a S) := rfl
theorem stwPost16 (d a : Reg) (S : Int) : Statement (.stwPost16 d a S) := rfl
theorem stbPre16 (d a : Reg) (S : Int) : Statement (.stbPre16 d a S) := rfl
theorem stwPre16 (d a : Reg) (S : Int) : Statement (.stwPre16 d a S) := rfl
theorem bra16 (S : Int) : Statement (.bra16 S) := rfl
theorem bal16 (S : Int) (b : Reg) : Statement (.bal16 S b) := rfl
theorem beq16 (S : Int) (a b : Reg) : Statement (.beq16 S a b) := rfl
theorem bne16 (S : Int) (a b : Reg) : Statement (.bne16 S a b) := rfl
theorem blts16 (S : Int) (a b : Reg) : Statement (.blts16 S a b) := rfl
theorem bles16 (S : Int) (a b : Reg) : Statement (.bles16 S a b) := rfl
theorem bltu16 (S : Int) (a b : Reg) : Statement (.bltu16 S a b) := rfl
theorem bleu16 (S : Int) (a b : Reg) : Statement (.bleu16 S a b) := rfl
theorem jmp16 (d : Reg) : Statement (.jmp16 d) := rfl
theorem jal16 (d b : Reg) : Statement (.jal16 d b) := rfl
theorem jeq16 (d a b : Reg) : Statement (.jeq16 d a b) := rfl
theorem jne16 (d a b : Reg) : Statement (.jne16 d a b) := rfl
theorem jlts16 (d a b : Reg) : Statement (.jlts16 d a b) := rfl
theorem jles16 (d a b : Reg) : Statement (.jles16 d a b) := rfl
theorem jltu16 (d a b : Reg) : Statement (.jltu16 d a b) := rfl
theorem jleu16 (d a b : Reg) : Statement (.jleu16 d a b) := rfl
theorem rte (d : Reg) : Statement (.rte d) := rfl
theorem nop32 (d : Reg) (I : Nat) : Statement (.nop32 d I) := rfl
theorem add32 (d a b : Reg) : Statement (.add32 d a b) := rfl
theorem sub32 (d a b : Reg) : Statement (.sub32 d a b) := rfl
theorem and32 (d a b : Reg) : Statement (.and32 d a b) := rfl
theorem or32 (d a b : Reg) : Statement (.or32 d a b) := rfl
theorem xor32 (d a b : Reg) : Statement (.xor32 d a b) := rfl
theorem asr32 (d a b : Reg) : Statement (.asr32 d a b) := rfl
theorem lsl32 (d a b : Reg) : Statement (.lsl32 d a b) := rfl
theorem lsr32 (d a b : Reg) : Statement (.lsr32 d a b) := rfl
theorem mov32 (d a : Reg) : Statement (.mov32 d a) := rfl
theorem addi32 (d a : Reg) (I : Nat) : Statement (.addi32 d a I) := rfl
theorem subi32 (d a : Reg) (I : Nat) : Statement (.subi32 d a I) := rfl
theorem asri32 (d a : Reg) (n : Nat) : Statement (.asri32 d a n) := rfl
theorem lsli32 (d a : Reg) (n : Nat) : Statement (.lsli32 d a n) := rfl
theorem lsri32 (d a : Reg) (n : Nat) : Statement (.lsri32 d a n) := rfl
theorem movi32 (d : Reg) (I : Nat) : Statement (.movi32 d I) := rfl
theorem addc (d a b : Reg) : Statement (.addc d a b) := rfl
theorem subc (d a b : Reg) : Statement (.subc d a b) := rfl
theorem andi (d a : Reg) (I : Nat) : Statement (.andi d a I) := rfl
theorem ori (d a : Reg) (I : Nat) : Statement (.ori d a I) := rfl
theorem xori (d a : Reg) (I : Nat) : Statement (.xori d a I) := rfl
theorem ldb32 (d a : Reg) (S : Int) : Statement (.ldb32 d a S) := rfl
theorem ldw32 (d a : Reg) (S : Int) : Statement (.ldw32 d a S) := rfl
theorem ldbPost32 (d a : Reg) (S : Int) : Statement (.ldbPost32 d a S) := rfl
theorem ldwPost32 (d a : Reg) (S : Int) : Statement (.ldwPost32 d a S) := rfl
theorem ldbPre32 (d a : Reg) (S : Int) : Statement (.ldbPre32 d a S) := rfl
theorem ldwPre32 (d a : Reg) (S : Int) : Statement (.ldwPre32 d a S) := rfl
theorem stb32 (d a : Reg) (S : Int) : Statement (.stb32 d a S) := rfl
theorem stw32 (d a : Reg) (S : Int) : Statement (.stw32 d a S) := rfl
theorem stbPost32 (d a : Reg) (S : Int) : Statement (.stbPost32 d a S) := rfl
theorem stwPost32 (d a : Reg) (S : Int) : Statement (.stwPost32 d a S) := rfl
theorem stbPre32 (d a : Reg) (S : Int) : Statement (.stbPre32 d a S) := rfl
theorem stwPre32 (d a : Reg) (S : Int) : Statement (.stwPre32 d a S) := rfl
theorem bra32 (S : Int) : Statement (.bra32 S) := rfl
theorem bal32 (S : Int) (b : Reg) : Statement (.bal32 S b) := rfl
theorem beq32 (S : Int) (a b : Reg) : Statement (.beq32 S a b) := rfl
theorem bne32 (S : Int) (a b : Reg) : Statement (.bne32 S a b) := rfl
theorem blts32 (S : Int) (a b : Reg) : Statement (.blts32 S a b) := rfl
theorem bles32 (S : Int) (a b : Reg) : Statement (.bles32 S a b) := rfl
theorem bltu32 (S : Int) (a b : Reg) : Statement (.bltu32 S a b) := rfl
theorem bleu32 (S : Int) (a b : Reg) : Statement (.bleu32 S a b) := rfl
theorem jmp32 (d : Reg) : Statement (.jmp32 d) := rfl
theorem jal32 (d b : Reg) : Statement (.jal32 d b) := rfl
theorem jeq32 (d a b : Reg) : Statement (.jeq32 d a b) := rfl
theorem jne32 (d a b : Reg) : Statement (.jne32 d a b) := rfl
theorem jlts32 (d a b : Reg) : Statement (.jlts32 d a b) := rfl
theorem jles32 (d a b : Reg) : Statement (.jles32 d a b) := rfl
theorem jltu32 (d a b : Reg) : Statement (.jltu32 d a b) := rfl
theorem jleu32 (d a b : Reg) : Statement (.jleu32 d a b) := rfl
theorem jmpl (d : Reg) : Statement (.jmpl d) := rfl
theorem jall (d b : Reg) : Statement (.jall d b) := rfl
theorem jeql (d a b : Reg) : Statement (.jeql d a b) := rfl
theorem jnel (d a b : Reg) : Statement (.jnel d a b) := rfl
theorem jltsl (d a b : Reg) : Statement (.jltsl d a b) := rfl
theorem jlesl (d a b : Reg) : Statement (.jlesl d a b) := rfl
theorem jltul (d a b : Reg) : Statement (.jltul d a b) := rfl
theorem jleul (d a b : Reg) : Statement (.jleul d a b) := rfl

end Sys2Proof.Laws.EncodedLength
end

