-- ==== Sys2Proof/Tests/Slice0.lean ====
section
/-! SUPPORT. The model's own tests. Words, states before and results are those of 95_test_vectors.md unless a test says otherwise;
each `witness_<Name>` shows that the hypotheses of the statement of that name can all be met. -/

open Sys2Proof Sys2Proof.Machine

namespace Sys2Proof.Tests

/-! WellFormed refuses an ill-formed term for each of its checks. -/

theorem test_wf_accepts : ([.add16 7 7 7, .movi16 7 63, .ldb16 1 2 (-4), .asri32 1 2 64, .jmpl 62] : List Instr).all Instr.wf = true := by
  decide
theorem test_wf_lowReg : (Instr.add16 8 1 1).wf = false := by decide
theorem test_wf_unsignedFits : (Instr.addi16 1 1 8).wf = false := by decide
theorem test_wf_signedFits_above : (Instr.ldw16 1 1 4).wf = false := by decide
theorem test_wf_signedFits_below : (Instr.bra32 (-2097153)).wf = false := by decide
theorem test_wf_shiftFits_zero : (Instr.lsli16 1 1 0).wf = false := by decide
theorem test_wf_shiftFits_above : (Instr.asri32 1 1 65).wf = false := by decide
theorem test_wf_evenReg : (Instr.jmpl 3).wf = false := by decide

/-! Decoding and encoding: the two directions on words of the spec. -/

/-- The words decode to the instruction with none left over, and the instruction encodes to the words. -/
def readsAs (c : List Word × Instr) : Bool :=
  (match decode c.1 with
    | .ok (j, []) => decide (j = c.2)
    | _ => false) && decide (encode c.2 = c.1)

/-- The words are rejected for the reason. -/
def rejectedAs (c : List Word × Illegal) : Bool :=
  match decode c.1 with
  | .ok _ => false
  | .error e => decide (e = c.2)

/-- Words of Alu16 (95_test_vectors.md, opcode_table.json), bit by bit. -/
theorem test_decode_Alu16 : ([
    ([0b0000000000000000], .nop16 0 0),
    ([0b0000000000000001], .nop16 0 1),
    ([0b0000001001010011], .add16 1 2 3),
    ([0b0000001001001001], .add16 1 1 1),
    ([0b0000010001010011], .sub16 1 2 3),
    ([0b0000011001010011], .and16 1 2 3),
    ([0b0000100001010011], .or16 1 2 3),
    ([0b0000101001010011], .xor16 1 2 3),
    ([0b0000101100100100], .xor16 4 4 4),
    ([0b0000110001010011], .asr16 1 2 3),
    ([0b0000111001010011], .lsl16 1 2 3),
    ([0b0001000001010011], .lsr16 1 2 3),
    ([0b0001001000111000], .mov16 0 7),
    ([0b0001010001010000], .addi16 1 2 0),
    ([0b0001010001010111], .addi16 1 2 7),
    ([0b0001011001010111], .subi16 1 2 7),
    ([0b0001011001001001], .subi16 1 1 1),
    ([0b0000010001001010], .sub16 1 1 2),
    ([0b0001100001010000], .asri16 1 2 1),
    ([0b0001100001010111], .asri16 1 2 8),
    ([0b0001101001010000], .lsli16 1 2 1),
    ([0b0001101001010111], .lsli16 1 2 8),
    ([0b0001110001010000], .lsri16 1 2 1),
    ([0b0001110001010111], .lsri16 1 2 8),
    ([0b0001111101111111], .movi16 5 63),
    ([0b0001111101000000], .movi16 5 0)] : List (List Word × Instr)).all readsAs = true := by decide

/-- Words of LoadStore16 (95_test_vectors.md, opcode_table.json), bit by bit. -/
theorem test_decode_LoadStore16 : ([
    ([0b0010000001010000], .ldb16 1 2 0),
    ([0b0010000001010100], .ldb16 1 2 (-4)),
    ([0b0010100001010000], .ldw16 1 2 0),
    ([0b0010100001010001], .ldw16 1 2 1),
    ([0b0010001001010001], .ldbPost16 1 2 1),
    ([0b0010101001010010], .ldwPost16 1 2 2),
    ([0b0010101001010110], .ldwPost16 1 2 (-2)),
    ([0b0010010001010001], .ldbPre16 1 2 1),
    ([0b0010110001010010], .ldwPre16 1 2 2),
    ([0b0010110001010110], .ldwPre16 1 2 (-2)),
    ([0b0011000010001000], .stb16 2 1 0),
    ([0b0011000010001111], .stb16 2 1 (-1)),
    ([0b0011100010001000], .stw16 2 1 0),
    ([0b0011100010001011], .stw16 2 1 3),
    ([0b0011001010001001], .stbPost16 2 1 1),
    ([0b0011101010001010], .stwPost16 2 1 2),
    ([0b0011101010010010], .stwPost16 2 2 2),
    ([0b0011010010001001], .stbPre16 2 1 1),
    ([0b0011110010001010], .stwPre16 2 1 2),
    ([0b0011110010001100], .stwPre16 2 1 (-4))] : List (List Word × Instr)).all readsAs = true := by decide

/-- Words of Branch16 (95_test_vectors.md, opcode_table.json), bit by bit. -/
theorem test_decode_Branch16 : ([
    ([0b0100000000000000], .bra16 0),
    ([0b0100000000000001], .bra16 1),
    ([0b0100001100000111], .bal16 (-32) 7),
    ([0b0100001011111000], .bal16 31 0),
    ([0b0100010011010011], .beq16 3 2 3),
    ([0b0100011011010011], .bne16 3 2 3),
    ([0b0100100011010011], .blts16 3 2 3),
    ([0b0100101011010011], .bles16 3 2 3),
    ([0b0100110011010011], .bltu16 3 2 3),
    ([0b0100111011010011], .bleu16 3 2 3),
    ([0b0100010100010011], .beq16 (-4) 2 3),
    ([0b0100011100010011], .bne16 (-4) 2 3),
    ([0b0101000001000000], .jmp16 1),
    ([0b0101001001000111], .jal16 1 7),
    ([0b0101001001000001], .jal16 1 1),
    ([0b0101010001010011], .jeq16 1 2 3),
    ([0b0101011001010011], .jne16 1 2 3),
    ([0b0101100001010011], .jlts16 1 2 3),
    ([0b0101101001010011], .jles16 1 2 3),
    ([0b0101110001010011], .jltu16 1 2 3),
    ([0b0101111001010011], .jleu16 1 2 3),
    ([0b0101010001001001], .jeq16 1 1 1)] : List (List Word × Instr)).all readsAs = true := by decide

/-- Words of Misc16 (95_test_vectors.md, opcode_table.json), bit by bit. -/
theorem test_decode_Misc16 : ([
    ([0b0110000101000000], .rte 5)] : List (List Word × Instr)).all readsAs = true := by decide

/-- Words of Alu32 (95_test_vectors.md, opcode_table.json), bit by bit. -/
theorem test_decode_Alu32 : ([
    ([0b1000001010100001, 0b0000000001010101], .add32 10 20 41),
    ([0b1000001111111111, 0b0000000111111111], .add32 63 63 63),
    ([0b1000010010100001, 0b0000000001010101], .sub32 10 20 41),
    ([0b1000011010100001, 0b0000000001010101], .and32 10 20 41),
    ([0b1000100010100001, 0b0000000001010101], .or32 10 20 41),
    ([0b1000101010100001, 0b0000000001010101], .xor32 10 20 41),
    ([0b1000110010100001, 0b0000000001010101], .asr32 10 20 41),
    ([0b1000111010100001, 0b0000000001010101], .lsl32 10 20 41),
    ([0b1001000010100001, 0b0000000001010101], .lsr32 10 20 41),
    ([0b1001001000111000, 0b0000000001111000], .mov32 8 63),
    ([0b1001010010100111, 0b0001111001010111], .addi32 10 20 1023),
    ([0b1001010010100000, 0b0000001001010000], .addi32 10 20 64),
    ([0b1001011010100111, 0b0001111001010111], .subi32 10 20 1023),
    ([0b1001011010100000, 0b0001000001010000], .subi32 10 20 512),
    ([0b1001100010100000, 0b0000000001010000], .asri32 10 20 1),
    ([0b1001100010100111, 0b0000000001010001], .asri32 10 20 16),
    ([0b1001101010100000, 0b0000000001010001], .lsli32 10 20 9),
    ([0b1001101010100110, 0b0000000001010001], .lsli32 10 20 15),
    ([0b1001110010100000, 0b0000000001010001], .lsri32 10 20 9),
    ([0b1001110010100111, 0b0000000001010001], .lsri32 10 20 16),
    ([0b1001111000101111, 0b0001011101111011], .movi32 40 48879),
    ([0b1001111000111111, 0b0001111000111111], .movi32 0 65535),
    ([0b1000001010100001, 0b0000001001010101], .addc 10 20 41),
    ([0b1000010010100001, 0b0000001001010101], .subc 10 20 41),
    ([0b1000011010100111, 0b0001111001010111], .andi 10 20 511),
    ([0b1000011010100000, 0b0000001001010000], .andi 10 20 0),
    ([0b1000100010100101, 0b0001011001010010], .ori 10 20 341),
    ([0b1000101010100111, 0b0001111001010111], .xori 10 20 511),
    ([0b1000000000000000, 0b0000000000000000], .nop32 0 0),
    ([0b1000000111111111, 0b0000000111111111], .nop32 63 4095)] : List (List Word × Instr)).all readsAs = true := by decide

/-- Words of LoadStore32 (95_test_vectors.md, opcode_table.json), bit by bit. -/
theorem test_decode_LoadStore32 : ([
    ([0b1010000000010000, 0b0001000101001000], .ldb32 40 10 (-512)),
    ([0b1010000000010111, 0b0000111101001111], .ldb32 40 10 511),
    ([0b1010100000010000, 0b0001000101001000], .ldw32 40 10 (-512)),
    ([0b1010100000010111, 0b0000111101001111], .ldw32 40 10 511),
    ([0b1010001000010111, 0b0000111101001111], .ldbPost32 40 10 511),
    ([0b1010101000010000, 0b0001000101001000], .ldwPost32 40 10 (-512)),
    ([0b1010010000010000, 0b0001000101001000], .ldbPre32 40 10 (-512)),
    ([0b1010110000010000, 0b0001000101001000], .ldwPre32 40 10 (-512)),
    ([0b1010110000010111, 0b0000111101001111], .ldwPre32 40 10 511),
    ([0b1011000111000000, 0b0001100111001000], .stb32 63 8 (-256)),
    ([0b1011100111000111, 0b0000111111001111], .stw32 63 8 511),
    ([0b1011001111000000, 0b0000100111001000], .stbPost32 63 8 256),
    ([0b1011101111000000, 0b0001100111001000], .stwPost32 63 8 (-256)),
    ([0b1011010111000000, 0b0000100111001000], .stbPre32 63 8 256),
    ([0b1011110111000000, 0b0000100111001000], .stwPre32 63 8 256),
    ([0b1011110111000010, 0b0000000111001000], .stwPre32 63 8 2),
    ([0b1011100111000000, 0b0001000111001000], .stw32 63 8 (-512))] : List (List Word × Instr)).all readsAs = true := by decide

/-- Words of Branch32 (95_test_vectors.md, opcode_table.json), bit by bit. -/
theorem test_decode_Branch32 : ([
    ([0b1100000000000000, 0b0001000000000000], .bra32 (-2097152)),
    ([0b1100000111111111, 0b0000111111111111], .bra32 2097151),
    ([0b1100001000000111, 0b0001000000000111], .bal32 (-32768) 63),
    ([0b1100001111111000, 0b0000111111111001], .bal32 32767 8),
    ([0b1100010000000001, 0b0001000000101101], .beq32 (-512) 40 41),
    ([0b1100011000000001, 0b0001000000101101], .bne32 (-512) 40 41),
    ([0b1100100000000001, 0b0001000000101101], .blts32 (-512) 40 41),
    ([0b1100101000000001, 0b0001000000101101], .bles32 (-512) 40 41),
    ([0b1100110000000001, 0b0001000000101101], .bltu32 (-512) 40 41),
    ([0b1100111000000001, 0b0001000000101101], .bleu32 (-512) 40 41),
    ([0b1100010111000001, 0b0000111111101101], .beq32 511 40 41),
    ([0b1101000001000000, 0b0000000100000000], .jmp32 33),
    ([0b1101001001000010, 0b0000000100000100], .jal32 33 34),
    ([0b1101001001000001, 0b0000000100000100], .jal32 33 33),
    ([0b1101010001000001, 0b0000000100101101], .jeq32 33 40 41),
    ([0b1101011001000001, 0b0000000100101101], .jne32 33 40 41),
    ([0b1101100001000001, 0b0000000100101101], .jlts32 33 40 41),
    ([0b1101101001000001, 0b0000000100101101], .jles32 33 40 41),
    ([0b1101110001000001, 0b0000000100101101], .jltu32 33 40 41),
    ([0b1101111001000001, 0b0000000100101101], .jleu32 33 40 41),
    ([0b1101000010000000, 0b0000001000000000], .jmpl 2),
    ([0b1101000110000000, 0b0000001111000000], .jmpl 62),
    ([0b1101001010000100, 0b0000001000000010], .jall 2 20),
    ([0b1101001010000010, 0b0000001000000000], .jall 2 2),
    ([0b1101010010000001, 0b0000001000101101], .jeql 2 40 41),
    ([0b1101011010000001, 0b0000001000101101], .jnel 2 40 41),
    ([0b1101100010000001, 0b0000001000101101], .jltsl 2 40 41),
    ([0b1101101010000001, 0b0000001000101101], .jlesl 2 40 41),
    ([0b1101110010000001, 0b0000001000101101], .jltul 2 40 41),
    ([0b1101111010000001, 0b0000001000101101], .jleul 2 40 41)] : List (List Word × Instr)).all readsAs = true := by decide

/-- The illegal encodings of 95_test_vectors.md, by clause of R99. -/
theorem test_decode_illegal : ([
    ([0x2600], .opcode16), ([0x2E00], .opcode16), ([0x3600], .opcode16), ([0x3E00], .opcode16), ([0x6200], .opcode16),
    ([0x7E00], .opcode16), ([0x1239], .mustBeZero16), ([0x5041], .mustBeZero16), ([0x5248], .mustBeZero16),
    ([0x6141], .mustBeZero16), ([0x8253, 0x8000], .longerThan32), ([0x8253, 0x2000], .secondWordClass),
    ([0xE000, 0x0000], .opcode32), ([0xA600, 0x0000], .opcode32), ([0x8253, 0x0400], .opcodeExtension),
    ([0x8C53, 0x0200], .opcodeExtension), ([0x8653, 0x0400], .opcodeExtension), ([0x8000, 0x0200], .opcodeExtension),
    ([0xD040, 0x0400], .opcodeExtension), ([0x9239, 0x0000], .mustBeZero32), ([0x9238, 0x0001], .mustBeZero32),
    ([0xD041, 0x0000], .mustBeZero32), ([0xD248, 0x0000], .mustBeZero32), ([0xD0C0, 0x0200], .oddPair),
    ([0xD541, 0x022D], .oddPair), ([0x8253], .noSecondWord), ([], .noWord)] :
      List (List Word × Illegal)).all rejectedAs = true := by decide

/-- A table row's bits: 16 bits, 32 bits with the first word high as R105 writes them, and 32 bits with the first word low. -/
theorem test_tableWord_16 : decodeTableWord 16 0x0253 = some (.add16 1 2 3) := by decide
theorem test_tableWord_first_high : decodeTableWord 32 0x82A10055 = some (.add32 10 20 41) := by decide
theorem test_tableWord_first_low : decodeTableWord 32 0x005582A1 = some (.add32 10 20 41) := by decide
theorem test_tableWord_illegal : decodeTableWord 16 0x2600 = none := by decide

/-- Assembler lines, by R102: a store names its address first. -/
theorem test_asm : asm (.stwPre32 63 8 256) = ⟨"STW", [.preDecrement 63 256, .reg 8], 2⟩ ∧
    asm (.bal16 (-32) 7) = ⟨"BAL", [.const (-32), .reg 7], 1⟩ := by decide

/-! Steps -/

/-- A state after reset but for the given registers, data bytes, carry and `pc`, with the words at `pc`. -/
def start (regs : List (Reg × Word)) (data : List (Nat × Byte)) (carry : Bool) (pc : Nat) (words : List Word) : State :=
  loadImage pc words
    (data.foldl (fun s c => writeByte s c.1 c.2)
      (regs.foldl (fun s c => writeReg s c.1 c.2) { State.reset with carry := carry, pc := pc }))

/-- The outcome is a next state with this `pc`, this carry, and these values of these registers and data bytes. -/
def ends (o : Result State) (pc : Nat) (carry : Bool) (regs : List (Reg × Word)) (data : List (Nat × Byte)) : Bool :=
  match o with
  | .next t => decide (t.pc = pc) && decide (t.carry = carry) && regs.all (fun c => decide (readReg t c.1 = c.2)) &&
      data.all (fun c => decide (byteAt t c.1 = c.2))
  | _ => false

/-- The outcome is this fault. -/
def faults (o : Result State) (f : Fault) : Bool :=
  match o with
  | .fault r => decide (r = f)
  | _ => false

/-- The outcome is this refusal. -/
def refuses (o : Result State) (f : Refusal) : Bool :=
  match o with
  | .refused r => decide (r = f)
  | _ => false

/-- The data image M. -/
def dataM : List (Nat × Byte) :=
  [(0x0FFE, 0x80), (0x0FFF, 0xFF), (0x1000, 0x34), (0x1001, 0x12), (0x1002, 0xCD), (0x1003, 0xAB)]

/-- The data image N. -/
def dataN : List (Nat × Byte) := [(0x0E00, 0x11), (0x0E01, 0x22), (0x11FF, 0x77), (0x1200, 0x88)]

/-- One vector of each instruction. -/
theorem test_add16 : ends (step (start [(2, 0xFFFF), (3, 0x0001)] [] false 0x100 [0x0253]))
    0x101 true [(1, 0x0000)] [] = true := by decide
theorem test_sub16 : ends (step (start [(2, 0x0005), (3, 0x0007)] [] false 0x100 [0x0453]))
    0x101 true [(1, 0xFFFE)] [] = true := by decide
theorem test_and16 : ends (step (start [(2, 0xF0F0), (3, 0x3C3C)] [] true 0x100 [0x0653]))
    0x101 true [(1, 0x3030)] [] = true := by decide
theorem test_or16 : ends (step (start [(2, 0xF0F0), (3, 0x3C3C)] [] true 0x100 [0x0853]))
    0x101 true [(1, 0xFCFC)] [] = true := by decide
theorem test_xor16 : ends (step (start [(2, 0xF0F0), (3, 0x3C3C)] [] true 0x100 [0x0A53]))
    0x101 true [(1, 0xCCCC)] [] = true := by decide
theorem test_asr16 : ends (step (start [(2, 0x8001), (3, 0x0001)] [] true 0x100 [0x0C53]))
    0x101 false [(1, 0xC000)] [] = true := by decide
theorem test_lsl16 : ends (step (start [(2, 0x8001), (3, 0x0001)] [] true 0x100 [0x0E53]))
    0x101 true [(1, 0x0002)] [] = true := by decide
theorem test_lsr16 : ends (step (start [(2, 0x8001), (3, 0x0001)] [] true 0x100 [0x1053]))
    0x101 true [(1, 0x4000)] [] = true := by decide
theorem test_mov16 : ends (step (start [(7, 0xBEEF)] [] true 0x100 [0x1238]))
    0x101 true [(0, 0xBEEF)] [] = true := by decide
theorem test_addi16 : ends (step (start [(2, 0xFFFC)] [] false 0x100 [0x1457]))
    0x101 true [(1, 0x0003)] [] = true := by decide
theorem test_subi16 : ends (step (start [(2, 0x0003)] [] false 0x100 [0x1657]))
    0x101 true [(1, 0xFFFC)] [] = true := by decide
theorem test_asri16 : ends (step (start [(2, 0x8001)] [] true 0x100 [0x1857]))
    0x101 false [(1, 0x0180)] [] = true := by decide
theorem test_lsli16 : ends (step (start [(2, 0x8001)] [] true 0x100 [0x1A50]))
    0x101 true [(1, 0x0002)] [] = true := by decide
theorem test_lsri16 : ends (step (start [(2, 0x8001)] [] true 0x100 [0x1C50]))
    0x101 true [(1, 0x4000)] [] = true := by decide
theorem test_movi16 : ends (step (start [] [] false 0x100 [0x1F7F]))
    0x101 false [(5, 0x003F)] [] = true := by decide
theorem test_ldb16 : ends (step (start [(2, 0x1002)] dataM false 0x100 [0x2054]))
    0x101 false [(1, 0x0080)] [] = true := by decide
theorem test_ldw16 : ends (step (start [(2, 0x1000)] dataM false 0x100 [0x2851]))
    0x101 false [(1, 0xCD12)] [] = true := by decide
theorem test_ldbPost16 : ends (step (start [(2, 0x0FFF)] dataM false 0x100 [0x2251]))
    0x101 false [(1, 0x0034), (2, 0x1000)] [] = true := by decide
theorem test_ldwPost16 : ends (step (start [(2, 0x1000)] dataM false 0x100 [0x2A52]))
    0x101 false [(1, 0xABCD), (2, 0x1002)] [] = true := by decide
theorem test_ldbPre16 : ends (step (start [(2, 0x1000)] dataM false 0x100 [0x2451]))
    0x101 false [(1, 0x00FF), (2, 0x0FFF)] [] = true := by decide
theorem test_ldwPre16 : ends (step (start [(2, 0x1002)] dataM false 0x100 [0x2C52]))
    0x101 false [(1, 0x1234), (2, 0x1000)] [] = true := by decide
theorem test_stb16 : ends (step (start [(1, 0xABCD), (2, 0x2000)] [] false 0x100 [0x3088]))
    0x101 false [] [(0x2000, 0xCD)] = true := by decide
theorem test_stw16 : ends (step (start [(1, 0xABCD), (2, 0x2000)] [] false 0x100 [0x388B]))
    0x101 false [] [(0x2003, 0xCD), (0x2004, 0xAB)] = true := by decide
theorem test_stbPost16 : ends (step (start [(1, 0xABCD), (2, 0x2000)] [] false 0x100 [0x3289]))
    0x101 false [(2, 0x2001)] [(0x2001, 0xCD)] = true := by decide
theorem test_stwPost16 : ends (step (start [(2, 0x2000)] [] false 0x100 [0x3A92]))
    0x101 false [(2, 0x2002)] [(0x2002, 0x00), (0x2003, 0x20)] = true := by decide
theorem test_stbPre16 : ends (step (start [(1, 0xABCD), (2, 0x2000)] [] false 0x100 [0x3489]))
    0x101 false [(2, 0x1FFF)] [(0x1FFF, 0xCD)] = true := by decide
theorem test_stwPre16 : ends (step (start [(1, 0xABCD), (2, 0x2000)] [] false 0x100 [0x3C8A]))
    0x101 false [(2, 0x1FFE)] [(0x1FFE, 0xCD), (0x1FFF, 0xAB)] = true := by decide
theorem test_bra16 : ends (step (start [] [] false 0x100 [0x4100]))
    0x0 false [] [] = true := by decide
theorem test_bal16 : ends (step (start [] [] false 0x12345 [0x4209]))
    0x12346 false [(1, 0x2346)] [] = true := by decide
theorem test_beq16 : ends (step (start [(2, 0x0005), (3, 0x0005)] [] false 0x100 [0x44D3]))
    0x103 false [] [] = true := by decide
theorem test_bne16 : ends (step (start [(2, 0x8000), (3, 0x0001)] [] false 0x100 [0x46D3]))
    0x103 false [] [] = true := by decide
theorem test_blts16 : ends (step (start [(2, 0x8000), (3, 0x0001)] [] false 0x100 [0x48D3]))
    0x103 false [] [] = true := by decide
theorem test_bles16 : ends (step (start [(2, 0x0005), (3, 0x0005)] [] false 0x100 [0x4AD3]))
    0x103 false [] [] = true := by decide
theorem test_bltu16 : ends (step (start [(2, 0x0001), (3, 0x8000)] [] false 0x100 [0x4CD3]))
    0x103 false [] [] = true := by decide
theorem test_bleu16 : ends (step (start [(2, 0x0005), (3, 0x0005)] [] false 0x100 [0x4ED3]))
    0x103 false [] [] = true := by decide
theorem test_jmp16 : ends (step (start [(1, 0xFFFF)] [] false 0x12345 [0x5040]))
    0xFFFF false [] [] = true := by decide
theorem test_jal16 : ends (step (start [(1, 0x0200)] [] false 0x100 [0x5241]))
    0x200 false [(1, 0x0101)] [] = true := by decide
theorem test_jeq16 : ends (step (start [(1, 0x0200), (2, 0x0005), (3, 0x0005)] [] false 0x100 [0x5453]))
    0x200 false [] [] = true := by decide
theorem test_jne16 : ends (step (start [(1, 0x0200), (2, 0x8000), (3, 0x0001)] [] false 0x100 [0x5653]))
    0x200 false [] [] = true := by decide
theorem test_jlts16 : ends (step (start [(1, 0x0200), (2, 0x8000), (3, 0x0001)] [] false 0x100 [0x5853]))
    0x200 false [] [] = true := by decide
theorem test_jles16 : ends (step (start [(1, 0x0200), (2, 0x0005), (3, 0x0005)] [] false 0x100 [0x5A53]))
    0x200 false [] [] = true := by decide
theorem test_jltu16 : ends (step (start [(1, 0x0200), (2, 0x0001), (3, 0x8000)] [] false 0x100 [0x5C53]))
    0x200 false [] [] = true := by decide
theorem test_jleu16 : ends (step (start [(1, 0x0200), (2, 0x0005), (3, 0x0005)] [] false 0x100 [0x5E53]))
    0x200 false [] [] = true := by decide
theorem test_rte : ends (step (start [(5, 0x0123)] [] false 0x100 [0x6140]))
    0x123 false [] [] = true := by decide
theorem test_add32 : ends (step (start [(20, 0xFFFF), (41, 0x0001)] [] false 0x100 [0x82A1, 0x0055]))
    0x102 true [(10, 0x0000)] [] = true := by decide
theorem test_sub32 : ends (step (start [(20, 0x0005), (41, 0x0007)] [] false 0x100 [0x84A1, 0x0055]))
    0x102 true [(10, 0xFFFE)] [] = true := by decide
theorem test_and32 : ends (step (start [(20, 0xF0F0), (41, 0x3C3C)] [] true 0x100 [0x86A1, 0x0055]))
    0x102 true [(10, 0x3030)] [] = true := by decide
theorem test_or32 : ends (step (start [(20, 0xF0F0), (41, 0x3C3C)] [] true 0x100 [0x88A1, 0x0055]))
    0x102 true [(10, 0xFCFC)] [] = true := by decide
theorem test_xor32 : ends (step (start [(20, 0xF0F0), (41, 0x3C3C)] [] true 0x100 [0x8AA1, 0x0055]))
    0x102 true [(10, 0xCCCC)] [] = true := by decide
theorem test_asr32 : ends (step (start [(20, 0x8001), (41, 0x0001)] [] true 0x100 [0x8CA1, 0x0055]))
    0x102 false [(10, 0xC000)] [] = true := by decide
theorem test_lsl32 : ends (step (start [(20, 0x8001), (41, 0x0004)] [] true 0x100 [0x8EA1, 0x0055]))
    0x102 true [(10, 0x0010)] [] = true := by decide
theorem test_lsr32 : ends (step (start [(20, 0x8001), (41, 0x0004)] [] true 0x100 [0x90A1, 0x0055]))
    0x102 true [(10, 0x0800)] [] = true := by decide
theorem test_mov32 : ends (step (start [(63, 0xBEEF)] [] false 0x100 [0x9238, 0x0078]))
    0x102 false [(8, 0xBEEF)] [] = true := by decide
theorem test_addi32 : ends (step (start [(20, 0xFC01)] [] false 0x100 [0x94A7, 0x1E57]))
    0x102 true [(10, 0x0000)] [] = true := by decide
theorem test_subi32 : ends (step (start [(20, 0x03FE)] [] false 0x100 [0x96A7, 0x1E57]))
    0x102 true [(10, 0xFFFF)] [] = true := by decide
theorem test_asri32 : ends (step (start [(20, 0x8001)] [] true 0x100 [0x98A7, 0x0051]))
    0x102 false [(10, 0x0001)] [] = true := by decide
theorem test_lsli32 : ends (step (start [(20, 0x8001)] [] true 0x100 [0x9AA0, 0x0051]))
    0x102 true [(10, 0x0200)] [] = true := by decide
theorem test_lsri32 : ends (step (start [(20, 0x8001)] [] true 0x100 [0x9CA0, 0x0051]))
    0x102 true [(10, 0x0040)] [] = true := by decide
theorem test_movi32 : ends (step (start [] [] false 0x100 [0x9E2F, 0x177B]))
    0x102 false [(40, 0xBEEF)] [] = true := by decide
theorem test_addc : ends (step (start [(20, 0xFFFF), (41, 0xFFFF)] [] true 0x100 [0x82A1, 0x0255]))
    0x102 true [(10, 0xFFFF)] [] = true := by decide
theorem test_subc : ends (step (start [(20, 0x0000), (41, 0x0000)] [] true 0x100 [0x84A1, 0x0255]))
    0x102 true [(10, 0xFFFF)] [] = true := by decide
theorem test_andi : ends (step (start [(20, 0xFFFF)] [] true 0x100 [0x86A7, 0x1E57]))
    0x102 true [(10, 0x01FF)] [] = true := by decide
theorem test_ori : ends (step (start [(20, 0x8000)] [] true 0x100 [0x88A5, 0x1652]))
    0x102 true [(10, 0x8155)] [] = true := by decide
theorem test_xori : ends (step (start [(20, 0x00FF)] [] true 0x100 [0x8AA7, 0x1E57]))
    0x102 true [(10, 0x0100)] [] = true := by decide
theorem test_ldb32 : ends (step (start [(10, 0x1000)] dataN false 0x100 [0xA010, 0x1148]))
    0x102 false [(40, 0x0011)] [] = true := by decide
theorem test_ldw32 : ends (step (start [(10, 0x1000)] dataN false 0x100 [0xA810, 0x1148]))
    0x102 false [(40, 0x2211)] [] = true := by decide
theorem test_ldbPost32 : ends (step (start [(10, 0x1000)] dataN false 0x100 [0xA217, 0x0F4F]))
    0x102 false [(10, 0x11FF), (40, 0x0077)] [] = true := by decide
theorem test_ldwPost32 : ends (step (start [(10, 0x1000)] dataN false 0x100 [0xAA10, 0x1148]))
    0x102 false [(10, 0x0E00), (40, 0x2211)] [] = true := by decide
theorem test_ldbPre32 : ends (step (start [(10, 0x1000)] dataN false 0x100 [0xA410, 0x1148]))
    0x102 false [(10, 0x1200), (40, 0x0088)] [] = true := by decide
theorem test_ldwPre32 : ends (step (start [(10, 0x0FFF)] dataN false 0x100 [0xAC10, 0x1148]))
    0x102 false [(10, 0x11FF), (40, 0x8877)] [] = true := by decide
theorem test_stb32 : ends (step (start [(8, 0xABCD), (63, 0x3000)] [] false 0x100 [0xB1C0, 0x19C8]))
    0x102 false [] [(0x2F00, 0xCD)] = true := by decide
theorem test_stw32 : ends (step (start [(8, 0xABCD), (63, 0x3000)] [] false 0x100 [0xB9C7, 0x0FCF]))
    0x102 false [] [(0x31FF, 0xCD), (0x3200, 0xAB)] = true := by decide
theorem test_stbPost32 : ends (step (start [(8, 0xABCD), (63, 0x3000)] [] false 0x100 [0xB3C0, 0x09C8]))
    0x102 false [(63, 0x3100)] [(0x3100, 0xCD)] = true := by decide
theorem test_stwPost32 : ends (step (start [(8, 0xABCD), (63, 0x3000)] [] false 0x100 [0xBBC0, 0x19C8]))
    0x102 false [(63, 0x2F00)] [(0x2F00, 0xCD), (0x2F01, 0xAB)] = true := by decide
theorem test_stbPre32 : ends (step (start [(8, 0xABCD), (63, 0x3000)] [] false 0x100 [0xB5C0, 0x09C8]))
    0x102 false [(63, 0x2F00)] [(0x2F00, 0xCD)] = true := by decide
theorem test_stwPre32 : ends (step (start [(8, 0xABCD), (63, 0x3000)] [] false 0x100 [0xBDC0, 0x09C8]))
    0x102 false [(63, 0x2F00)] [(0x2F00, 0xCD), (0x2F01, 0xAB)] = true := by decide
theorem test_bra32 : ends (step (start [] [] false 0x100 [0xC1FF, 0x0FFF]))
    0x2000FF false [] [] = true := by decide
theorem test_bal32 : ends (step (start [] [] false 0x8000 [0xC207, 0x1007]))
    0x0 false [(63, 0x8002)] [] = true := by decide
theorem test_beq32 : ends (step (start [(40, 0x0005), (41, 0x0005)] [] false 0x300 [0xC401, 0x102D]))
    0x100 false [] [] = true := by decide
theorem test_bne32 : ends (step (start [(40, 0x8000), (41, 0x0001)] [] false 0x300 [0xC601, 0x102D]))
    0x100 false [] [] = true := by decide
theorem test_blts32 : ends (step (start [(40, 0x8000), (41, 0x0001)] [] false 0x300 [0xC801, 0x102D]))
    0x100 false [] [] = true := by decide
theorem test_bles32 : ends (step (start [(40, 0x8000), (41, 0x0001)] [] false 0x300 [0xCA01, 0x102D]))
    0x100 false [] [] = true := by decide
theorem test_bltu32 : ends (step (start [(40, 0x0001), (41, 0x8000)] [] false 0x300 [0xCC01, 0x102D]))
    0x100 false [] [] = true := by decide
theorem test_bleu32 : ends (step (start [(40, 0x0001), (41, 0x8000)] [] false 0x300 [0xCE01, 0x102D]))
    0x100 false [] [] = true := by decide
theorem test_jmp32 : ends (step (start [(33, 0xFFFF)] [] false 0x123456 [0xD040, 0x0100]))
    0xFFFF false [] [] = true := by decide
theorem test_jal32 : ends (step (start [(33, 0x0200)] [] false 0x1FFFE [0xD241, 0x0104]))
    0x200 false [(33, 0x0000)] [] = true := by decide
theorem test_jeq32 : ends (step (start [(33, 0x0200), (40, 0x0005), (41, 0x0005)] [] false 0x100 [0xD441, 0x012D]))
    0x200 false [] [] = true := by decide
theorem test_jne32 : ends (step (start [(33, 0x0200), (40, 0x8000), (41, 0x0001)] [] false 0x100 [0xD641, 0x012D]))
    0x200 false [] [] = true := by decide
theorem test_jlts32 : ends (step (start [(33, 0x0200), (40, 0x8000), (41, 0x0001)] [] false 0x100 [0xD841, 0x012D]))
    0x200 false [] [] = true := by decide
theorem test_jles32 : ends (step (start [(33, 0x0200), (40, 0x8000), (41, 0x0001)] [] false 0x100 [0xDA41, 0x012D]))
    0x200 false [] [] = true := by decide
theorem test_jltu32 : ends (step (start [(33, 0x0200), (40, 0x0001), (41, 0x8000)] [] false 0x100 [0xDC41, 0x012D]))
    0x200 false [] [] = true := by decide
theorem test_jleu32 : ends (step (start [(33, 0x0200), (40, 0x0001), (41, 0x8000)] [] false 0x100 [0xDE41, 0x012D]))
    0x200 false [] [] = true := by decide
theorem test_jmpl : ends (step (start [(2, 0x5678), (3, 0x0012)] [] false 0x100 [0xD080, 0x0200]))
    0x125678 false [] [] = true := by decide
theorem test_jall : ends (step (start [(2, 0x5678), (3, 0x0012)] [] false 0x2FFFF [0xD283, 0x0200]))
    0x125678 false [(3, 0x0001)] [] = true := by decide
theorem test_jeql : ends (step (start [(2, 0x5678), (3, 0x0012), (40, 0x0005), (41, 0x0005)] [] false 0x100 [0xD481, 0x022D]))
    0x125678 false [] [] = true := by decide
theorem test_jnel : ends (step (start [(2, 0x5678), (3, 0x0012), (40, 0x8000), (41, 0x0001)] [] false 0x100 [0xD681, 0x022D]))
    0x125678 false [] [] = true := by decide
theorem test_jltsl : ends (step (start [(2, 0x5678), (3, 0x0012), (40, 0x8000), (41, 0x0001)] [] false 0x100 [0xD881, 0x022D]))
    0x125678 false [] [] = true := by decide
theorem test_jlesl : ends (step (start [(2, 0x5678), (3, 0x0012), (40, 0x0005), (41, 0x0005)] [] false 0x100 [0xDA81, 0x022D]))
    0x125678 false [] [] = true := by decide
theorem test_jltul : ends (step (start [(2, 0x5678), (3, 0x0012), (40, 0x0001), (41, 0x8000)] [] false 0x100 [0xDC81, 0x022D]))
    0x125678 false [] [] = true := by decide
theorem test_jleul : ends (step (start [(2, 0x5678), (3, 0x0012), (40, 0x0005), (41, 0x0005)] [] false 0x100 [0xDE81, 0x022D]))
    0x125678 false [] [] = true := by decide

theorem test_break : (match step (start [] [] true 0x100 [0x0000]) with
    | .next t => decide (t.status = .halted ∧ t.carry = true)
    | _ => false) = true := by decide
theorem test_true_nop : ends (step (start [] [] true 0x100 [0x0001])) 0x101 true [] [] = true := by decide

/-- With `nop_effect` set to "no effect" (40_alu16.md R121, 44_alu32.md R201). -/
theorem test_nop16 : ends (step { start [] [] false 0x100 [0x01FF] with cfg := { platform with nop := .effects [] } }) 0x101 false [] [] =
    true := by decide
theorem test_nop32 : ends (step { start [] [] false 0x100 [0x8000, 0x0000] with cfg := { platform with nop := .effects [] } })
    0x102 false [] [] = true := by decide

/-- `nop_effect` by `d` and `I`: NOP R1,3 writes R2 twice, in order, and a register that does not exist; others refuse. -/
def ownNops : Config :=
  { platform with
    nregs := 41
    nop := .refuse
    nopFor := [{ d := 1, I := 3, policy := .effects [⟨2, 6⟩, ⟨2, 7⟩, ⟨41, 1⟩] }] }

theorem test_nop16_effects : ends (step { start [] [] true 0x100 [0x0043] with cfg := ownNops }) 0x101 true [(2, 7), (41, 0)] [] =
    true := by decide
theorem test_nop32_effects : ends (step { start [] [] true 0x100 [0x8043, 0x0000] with cfg := ownNops }) 0x102 true [(2, 7), (41, 0)] [] =
    true := by decide
theorem test_nop_own_refusal : refuses (step { start [] [] false 0x100 [0x0045] with cfg := ownNops }) (.nopEffect 1 5) = true := by
  decide

/-- `imem_exists` as ranges: a placed word outside them does not exist, and `withFetchWord` makes the word it places exist. -/
def someCode : Config := { platform with imem := .ranges [{ base := 0x200, size := 2 }] }

theorem test_word_outside_ranges : faults (step { start [] [] false 0x100 [0x0253] with cfg := someCode }) (.busError 0x100) = true := by
  decide
theorem test_withFetchWord_ranges :
    ends (step (State.withFetchWord { start [(2, 3), (3, 4)] [] false 0x100 [] with cfg := someCode } 16 0x0253)) 0x101 false [(1, 7)] [] =
      true := by decide

/-- The default of R4, "refuse". -/
theorem test_nop_refused : refuses (step { start [] [] false 0x100 [0x0040] with cfg := { platform with nop := .refuse } })
    (.nopEffect 1 0) = true := by decide
theorem test_rte_refused : refuses (step { start [] [] false 0x100 [0x6140] with cfg := { platform with rteDefined := false } })
    .rteUndefined = true := by decide
theorem test_same_register_refused :
    refuses (step { start [(2, 0x2000)] [] false 0x100 [0x3C92] with cfg := { platform with sameReg := .refuse } })
      (.sameRegWriteback 2) = true := by decide

/-- ADD with destination and both operands one register; a shift count read whole; a comparison that does not hold. -/
theorem test_add16_one_register : ends (step (start [(1, 0x8000)] [] false 0x100 [0x0249])) 0x101 true [(1, 0)] [] = true := by decide
theorem test_asr16_by_17 : ends (step (start [(2, 0x8001), (3, 0x11)] [] true 0x100 [0x0C53])) 0x101 false [(1, 0)] [] = true := by
  decide
theorem test_lsl16_by_32768 : ends (step (start [(2, 0x8001), (3, 0x8000)] [] true 0x100 [0x0E53])) 0x101 true [(1, 0)] [] = true := by
  decide
theorem test_bltu16_untaken : ends (step (start [(2, 0x8000), (3, 1)] [] false 0x100 [0x4CD3])) 0x101 false [] [] = true := by decide
theorem test_jnel_untaken : ends (step (start [(40, 5), (41, 5)] [] false 0x100 [0xD681, 0x022D])) 0x102 false [] [] = true := by decide

/-! Exceptions -/

theorem test_word_load_at_65535 :
    faults (step (start [(2, 0xFFFF)] [(0, 2), (0xFFFF, 1)] false 0x100 [0x2850])) (.busError 0x10000) = true := by decide
theorem test_word_store_at_65535 :
    faults (step (start [(1, 0xABCD), (2, 1)] [] false 0x100 [0x3C8A])) (.busError 0x10000) = true := by decide

/-- With data bytes existing below 0x2000 only. -/
def smallData : Config := { platform with dmem := [{ base := 0, size := 0x2000, kind := .memory }] }

theorem test_missing_byte :
    faults (step { start [(2, 0x2000)] [] false 0x100 [0x2050] with cfg := smallData }) (.busError 0x2000) = true := by decide
theorem test_missing_second_byte :
    faults (step { start [(2, 0x1FFF)] [] false 0x100 [0x2850] with cfg := smallData }) (.busError 0x2000) = true := by decide

/-- A device's address is refused (R49, U15); not a vector of the spec. -/
theorem test_device : refuses (step { start [(2, 0x2000)] [] false 0x100 [0x2050] with
    cfg := { platform with dmem := [{ base := 0x2000, size := 1, kind := .device }] } }) (.device 0x2000) = true := by decide
theorem test_branch_below_zero : faults (step (start [] [] false 0xFF [0x4100])) (.busError (-1)) = true := by decide
theorem test_long_jump_above : faults (step (start [(2, 0x5678), (3, 0x0100)] [] false 0x100 [0xD284, 0x0202])) (.busError 0x1005678) =
    true := by decide
theorem test_top_of_code : faults (step (start [] [] false 0xFFFFFF [0x0001])) (.busError 0x1000000) = true := by decide
theorem test_fetch_missing : faults (step (start [] [] false 0x10 [])) (.busError 0x10) = true := by decide
theorem test_fetch_missing_second : faults (step (start [] [] false 0xF [0xE000])) (.busError 0x10) = true := by decide
theorem test_illegal_instruction : faults (step (start [] [] false 0x100 [0x6141])) (.illegalInstruction [0x6141]) = true := by decide
theorem test_illegal_register : faults (step { start [] [] false 0x100 [0x82A1, 0x0055] with cfg := { platform with nregs := 16 } })
    (.illegalRegister 20) = true := by decide
theorem test_illegal_pair_register :
    faults (step { start [] [] false 0x100 [0xD180, 0x0240] with cfg := { platform with nregs := 15 } }) (.illegalRegister 15) =
      true := by decide
theorem test_halted : refuses (step { start [] [] false 0x100 [0x0253] with status := .halted }) .halted = true := by decide

/-! The loader and the host's two functions (entries 8, 25, 26); the words are those of the vectors above. -/

theorem test_withFetchWord : ends (step (State.reset.withFetchWord 16 0x1F7F)) 1 false [(5, 0x3F)] [] = true := by decide
theorem test_withFetchWord_long : ends (step (State.reset.withFetchWord 32 0x9E2F177B)) 2 false [(40, 0xBEEF)] [] = true := by decide
theorem test_imageWords : imageWords .littleEndian [0x53, 0x02] = [0x0253] ∧ imageWords .bigEndian [0x02, 0x53] = [0x0253] := by decide
theorem test_loadData : byteAt (loadData 0x1000 [0x34, 0x12] State.reset) 0x1001 = 0x12 := by decide

/-! Witnesses -/

theorem witness_DecodeEncodeRoundTrip : (Instr.add32 63 62 61).wf = true ∧ (Instr.bra16 (-256)).wf = true := by decide
theorem witness_EncodeDecodeRoundTrip : decode [0x83FF, 0x01FF, 7] = .ok (.add32 63 63 63, [7]) := by rfl
theorem witness_IllegalWords16 : isLong 0x7FFF = false ∧ isLong 0x0000 = false := by decide
theorem witness_IllegalWords32 : isLong 0x8000 = true ∧ isLong 0xFFFF = true := by decide
theorem witness_AssemblerLineIdentifies : asm (.rte 5) = asm (.rte 5) := rfl

/-- ADD R1,R2,R3 at the last word address but one. -/
def oneAdd : State := start [(2, 0xFFFF), (3, 1)] [] false 0xFFFFFE [0x0253]

/-- The 32-bit ADD R10,R20,R41. -/
def longAdd : State := start [] [] false 0x100 [0x82A1, 0x0055]

theorem codeAt_oneAdd : codeAt oneAdd oneAdd.pc [0x0253] := ⟨by decide, rfl, trivial⟩
theorem codeAt_longAdd : codeAt longAdd longAdd.pc [0x82A1, 0x0055] := ⟨by decide, rfl, by decide, rfl, trivial⟩

theorem witness_StepRunsDecodedInstruction : oneAdd.status = .running ∧ codeAt oneAdd oneAdd.pc [0x0253] ∧
    decode [0x0253] = .ok (.add16 1 2 3, []) ∧ ∀ n ∈ regFields (.add16 1 2 3), hasReg oneAdd n = true :=
  ⟨rfl, codeAt_oneAdd, rfl, by decide⟩

/-- Where an illegal word of one, and of two, words stands. -/
theorem witness_IllegalInstructionRaised :
    (codeAt (start [] [] false 0x100 [0x7FFF]) 0x100 [0x7FFF] ∧ ∃ e, decode [0x7FFF] = .error e) ∧
      codeAt (start [] [] false 0x100 [0x8253, 0x8000]) 0x100 [0x8253, 0x8000] ∧ ∃ e, decode [0x8253, 0x8000] = .error e :=
  ⟨⟨⟨by decide, rfl, trivial⟩, _, rfl⟩, ⟨by decide, rfl, by decide, rfl, trivial⟩, _, rfl⟩

/-- A register field equal to NREGS, and `d + 1` equal to 64. -/
theorem witness_MissingRegisterRaises :
    (∃ n ∈ regFields (.add32 10 20 41), hasReg { longAdd with cfg := { platform with nregs := 41 } } n = false) ∧
      codeAt { longAdd with cfg := { platform with nregs := 41 } } 0x100 [0x82A1, 0x0055] ∧
      decode [0x82A1, 0x0055] = .ok (.add32 10 20 41, []) ∧ hasReg longAdd 64 = false ∧ hasReg longAdd 63 = true :=
  ⟨⟨41, by decide, by decide⟩, ⟨by decide, rfl, by decide, rfl, trivial⟩, rfl, by decide, by decide⟩

/-- The last word address but one, placed; the last, not placed; the first out of range; and the bounds of a range. -/
theorem witness_InstructionFetchValue :
    (0xFFFFFE < 2 ^ oneAdd.cfg.pcw ∧ imemExists oneAdd 0xFFFFFE = true ∧ Memory.get oneAdd.imem 0xFFFFFE = some 0x0253) ∧
      (imemExists oneAdd 0xFFFFFF = false ∧ 2 ^ oneAdd.cfg.pcw ≤ 0x1000000 ∧ oneAdd.cfg.imem = .image) ∧
      someCode.imem = .ranges [{ base := 0x200, size := 2 }] ∧ imemExists { oneAdd with cfg := someCode } 0x200 = true ∧
      imemExists { oneAdd with cfg := someCode } 0x201 = true ∧ imemExists { oneAdd with cfg := someCode } 0x202 = false := by decide
theorem witness_StepFetchBusErrors :
    (State.reset.status = .running ∧ imemExists State.reset State.reset.pc = false) ∧
      (start [] [] false 0xF [0xE000]).status = .running ∧ codeAt (start [] [] false 0xF [0xE000]) 0xF [0xE000] ∧
      isLong 0xE000 = true ∧ imemExists (start [] [] false 0xF [0xE000]) 0x10 = false ∧
      codeAt (start [] [] false 0xFFFFFF [0xE000]) 0xFFFFFF [0xE000] ∧
      2 ^ (start [] [] false 0xFFFFFF [0xE000]).cfg.pcw ≤ 0xFFFFFF + 1 :=
  ⟨⟨rfl, rfl⟩, rfl, ⟨by decide, rfl, trivial⟩, by decide, rfl, ⟨by decide, rfl, trivial⟩, by decide⟩
theorem witness_HaltedTakesNoStep : { oneAdd with status := RunStatus.halted }.status = .halted := rfl

theorem oneAdd_sound : oneAdd.Sound where
  cfg := by decide
  pc := by decide
  dmem := by decide
  imem := by decide
  bytes := by decide
  words := by decide
theorem oneAdd_steps : ∃ t, step oneAdd = .next t := ⟨_, rfl⟩
theorem witness_SoundKeptByEveryStep : oneAdd.Sound ∧ ∃ t, step oneAdd = .next t := ⟨oneAdd_sound, oneAdd_steps⟩
theorem witness_ResetIsSound : platform.wf ∧ { platform with pcw := 17, resetPc := 131071 }.wf := by decide
theorem witness_CodeMemoryNeverChanges : ∃ t, step oneAdd = .next t := oneAdd_steps
theorem witness_OnlyBreakHalts : exec (.nop16 0 0) oneAdd = .next (halt oneAdd) ∧ (halt oneAdd).status ≠ oneAdd.status :=
  ⟨rfl, by decide⟩
theorem witness_CarryWritersOnly : (writesCarry (.and16 1 2 3) = false ∧ ∃ t, exec (.and16 1 2 3) oneAdd = .next t) ∧
    (writesCarry (.nop16 1 3) = false ∧ ∃ t, exec (.nop16 1 3) { oneAdd with cfg := ownNops } = .next t) ∧
    (∃ t, exec (.asr16 1 2 3) oneAdd = .next t) ∧ ∃ t, exec (.asri32 1 2 64) longAdd = .next t :=
  ⟨⟨rfl, _, rfl⟩, ⟨rfl, _, rfl⟩, ⟨_, rfl⟩, _, rfl⟩
theorem witness_DataWritersOnly : (writesData (.jal16 2 3) = false ∧ ∃ t, exec (.jal16 2 3) oneAdd = .next t) ∧
    writesData (.nop16 1 3) = false ∧ ∃ t, exec (.nop16 1 3) { oneAdd with cfg := ownNops } = .next t :=
  ⟨⟨rfl, _, rfl⟩, rfl, _, rfl⟩
theorem witness_RegisterWritersOnly : ((∃ t, exec (.add16 1 2 3) oneAdd = .next t) ∧ (2 : Reg) ∉ mayWrite (.add16 1 2 3) ∧
      ∀ v, ⟨2, v⟩ ∉ effectsOf (.add16 1 2 3) oneAdd) ∧
    ((∃ t, exec (.nop16 1 3) { oneAdd with cfg := ownNops } = .next t) ∧ (1 : Reg) ∉ mayWrite (.nop16 1 3) ∧
      ∀ v, ⟨1, v⟩ ∉ effectsOf (.nop16 1 3) { oneAdd with cfg := ownNops }) ∧
    ∀ d I, (Instr.add16 1 2 3 ≠ .nop16 d I ∧ Instr.add16 1 2 3 ≠ .nop32 d I) :=
  ⟨⟨⟨_, rfl⟩, by decide, fun _ => by simp [effectsOf]⟩, ⟨⟨_, rfl⟩, by decide,
    fun _ => by simp [effectsOf, nopEffects, ownNops, nopPolicy]⟩, fun _ _ => ⟨by simp, by simp⟩⟩
theorem witness_MissingRegistersNeverChange :
    (∃ t, step { oneAdd with cfg := { platform with nregs := 4 } } = .next t) ∧
      hasReg { oneAdd with cfg := { platform with nregs := 4 } } 4 = false := ⟨⟨_, rfl⟩, by decide⟩

/-- `oneAdd` has room for an instruction of one word at the top of code memory, `longAdd` for one of two, and each constant is the
largest, or the smallest, that its statement takes. -/
theorem witness_AddResults : 65535 < 65536 ∧ roomFor oneAdd 1 ∧ roomFor longAdd 2 := by decide
theorem witness_SubResults : 0 < 65536 ∧ roomFor oneAdd 1 ∧ roomFor longAdd 2 := by decide
theorem witness_AddcSubcResults : roomFor { longAdd with pc := 0xFFFFFD } 2 := by decide
theorem witness_LogicResults : roomFor oneAdd 1 ∧ roomFor longAdd 2 := by decide
theorem witness_LogicImmediateResults : 511 ≤ 511 ∧ roomFor longAdd 2 := by decide
theorem witness_AsrResults : 17 < 65536 ∧ 17 ≤ 17 ∧ roomFor oneAdd 1 ∧ roomFor longAdd 2 := by decide
theorem witness_LogicalShiftResults : roomFor oneAdd 1 ∧ roomFor longAdd 2 := by decide
theorem witness_LogicalShiftImmediateResults : (1 ≤ 1 ∧ 1 ≤ 64) ∧ (1 ≤ 64 ∧ 64 ≤ 64) ∧ roomFor oneAdd 1 ∧ roomFor longAdd 2 := by decide
theorem witness_MoveResults : roomFor oneAdd 1 ∧ roomFor longAdd 2 := by decide
theorem witness_StraightLineRaisesAtTheTop : straightLine (.addc 1 2 3) = some 2 ∧ 2 ^ oneAdd.cfg.pcw ≤ oneAdd.pc + 2 := by decide
theorem witness_TrueNopOnlyAdvances : roomFor oneAdd 1 ∧ ¬ roomFor { oneAdd with pc := 0xFFFFFF } 1 := by decide
theorem witness_OtherNopsAdvance : nopPolicy oneAdd.cfg 0 2 ≠ .refuse ∧ ¬ ((0 : Reg) = 0 ∧ (2 = 0 ∨ 2 = 1)) ∧
    nopPolicy ownNops 1 3 ≠ .refuse ∧ ¬ ((1 : Reg) = 0 ∧ (3 = 0 ∨ 3 = 1)) ∧ roomFor oneAdd 1 ∧ ¬ roomFor oneAdd 2 ∧
    ¬ roomFor { oneAdd with pc := 0xFFFFFF } 1 ∧ roomFor { longAdd with cfg := ownNops } 2 := by decide
theorem witness_NopByParameter : nopPolicy { platform with nop := .effects [] } 1 0 = .effects [] ∧ nopPolicy ownNops 1 0 = .refuse ∧
    ¬ ((1 : Reg) = 0 ∧ (0 = 0 ∨ 0 = 1)) ∧ roomFor { oneAdd with cfg := { platform with nop := .effects [] } } 1 ∧
    ¬ roomFor { oneAdd with cfg := { platform with nop := .effects [] } } 2 ∧
    roomFor { longAdd with cfg := { platform with nop := .effects [] } } 2 ∧ oneAdd.cfg.nopFor = [] ∧
    ∃ r rs, ownNops.nopFor = r :: rs :=
  ⟨rfl, rfl, by decide, by decide, by decide, by decide, rfl, _, _, rfl⟩
theorem witness_SideEffectsOfNops : (∀ v, ⟨1, v⟩ ∉ ([⟨2, 7⟩] : List SideEffect)) ∧ hasReg oneAdd 63 = true ∧
    hasReg { oneAdd with cfg := ownNops } 41 = false := ⟨by simp, by decide, by decide⟩
theorem witness_RteResult : (oneAdd.cfg.rteDefined = true ∧ 16 ≤ oneAdd.cfg.pcw) ∧
    { platform with rteDefined := false }.rteDefined = false := by decide

/-- All of data memory exists in `oneAdd`, and the bytes below 0x2000 in `shortData`. -/
def shortData : State := { oneAdd with cfg := smallData }

theorem witness_MemReadValue : plainByte shortData 0x1FFF ∧ plainByte shortData 0x1FFE ∧ plainByte shortData (0x1FFE + 1) ∧
    missingByte shortData 0x2000 ∧ missingByte shortData (0x1FFF + 1) ∧ missingByte oneAdd 65536 := by decide
theorem witness_MemWriteEffect : plainData oneAdd 65534 .word ∧ plainData oneAdd 65535 .byte ∧ missingByte oneAdd 65536 ∧
    plainByte oneAdd 65535 ∧ missingByte oneAdd (65535 + 1) := by decide
theorem witness_WordAccessAt65535 : plainByte oneAdd 65535 := by decide
theorem witness_LoadReturnsLastStore : (∃ t, memWrite oneAdd 65534 .word 0xABCD = .next t) ∧
    (∃ t u, memWrite oneAdd 65534 .byte 0xCD = .next t ∧ memWrite t (65534 + 1) .byte 0xAB = .next u) ∧
    ∃ t w, memWrite oneAdd 65534 .word 0xABCD = .next t ∧ memRead oneAdd 65532 .word = .next w ∧
      65532 + Size.word.bytes ≤ 65534 :=
  ⟨⟨_, rfl⟩, ⟨_, _, rfl, rfl⟩, _, _, rfl, rfl, by decide⟩

/-- The bases of the statements on loads and stores, at the top of data memory and next to each other; R1 and R2 are distinct. -/
def loadStart : State := start [(1, 0xFFFE), (2, 0xFFFE)] [] false 0xFFFFFD []

/-- The clauses of those statements where there is no room for the next instruction: the same data at the last word addresses. -/
theorem witness_loads_and_stores_without_room :
    ¬ roomFor { loadStart with pc := 0xFFFFFF } 1 ∧ ¬ roomFor { loadStart with pc := 0xFFFFFE } 2 ∧ loadStart.cfg.sameReg = .free ∧
      [0xFFFFFE, 0xFFFFFF].all (fun p =>
        let s := { loadStart with pc := p }
        decide (plainData s (addressPlus s 1 1).toNat .byte ∧ plainData s (addressPlus s 1 0).toNat .word ∧
          plainData s (addressMinus s 1 (-1)).toNat .byte ∧ plainData s (addressMinus s 1 0).toNat .word)) = true := by decide

theorem witness_IndexedLoads : plainData loadStart (addressPlus loadStart 2 1).toNat .byte ∧
    plainData loadStart (addressPlus loadStart 2 0).toNat .word ∧ roomFor loadStart 2 := by decide
theorem witness_PostIncrementLoads : (1 : Reg) ≠ 2 ∧ plainData loadStart (addressPlus loadStart 2 1).toNat .byte ∧
    plainData loadStart (addressPlus loadStart 2 0).toNat .word ∧ roomFor loadStart 2 := by decide
theorem witness_PreDecrementLoads : (1 : Reg) ≠ 2 ∧ plainData loadStart (addressMinus loadStart 2 (-1)).toNat .byte ∧
    plainData loadStart (addressMinus loadStart 2 0).toNat .word ∧ roomFor loadStart 2 := by decide
theorem witness_SameRegisterLoads : loadStart.cfg.sameReg = .free ∧ plainData loadStart (addressPlus loadStart 2 1).toNat .byte ∧
    plainData loadStart (addressPlus loadStart 2 0).toNat .word ∧ plainData loadStart (addressMinus loadStart 2 (-1)).toNat .byte ∧
    plainData loadStart (addressMinus loadStart 2 0).toNat .word ∧ roomFor loadStart 1 ∧ roomFor loadStart 2 := by decide
theorem witness_IndexedStores : plainData loadStart (addressPlus loadStart 1 1).toNat .byte ∧
    plainData loadStart (addressPlus loadStart 1 0).toNat .word ∧ roomFor loadStart 2 := by decide
theorem witness_PostIncrementStores : plainData loadStart (addressPlus loadStart 1 1).toNat .byte ∧
    plainData loadStart (addressPlus loadStart 1 0).toNat .word ∧ roomFor loadStart 2 := by decide
theorem witness_PreDecrementStores : (1 : Reg) ≠ 2 ∧ plainData loadStart (addressMinus loadStart 1 (-1)).toNat .byte ∧
    plainData loadStart (addressMinus loadStart 1 0).toNat .word ∧ roomFor loadStart 2 := by decide
theorem witness_SameRegisterStores : loadStart.cfg.sameReg = .free ∧ plainData loadStart (addressMinus loadStart 2 (-1)).toNat .byte ∧
    plainData loadStart (addressMinus loadStart 2 0).toNat .word ∧ roomFor loadStart 1 ∧ roomFor loadStart 2 := by decide
theorem witness_SameRegisterRefused : { platform with sameReg := .refuse }.sameReg = .refuse := rfl

/-- The first byte missing, and the second byte missing, through each of the two addresses; R1 holds 0x1FFE. -/
theorem witness_DataBusErrors : ((1 : Reg) ≠ 2 ∨ loadStart.cfg.sameReg = .free) ∧ ((2 : Reg) ≠ 2 ∨ shortData.cfg.sameReg = .free) ∧
    missingByte { shortData with regs := loadStart.regs } (addressPlus { shortData with regs := loadStart.regs } 2 1).toNat ∧
    plainByte loadStart (addressPlus loadStart 2 1).toNat ∧ missingByte loadStart ((addressPlus loadStart 2 1).toNat + 1) ∧
    missingByte { shortData with regs := loadStart.regs } (addressMinus { shortData with regs := loadStart.regs } 2 1).toNat ∧
    plainByte loadStart (addressMinus loadStart 2 (-1)).toNat ∧ missingByte loadStart ((addressMinus loadStart 2 (-1)).toNat + 1) := by
  decide

/-- The clauses of the branch statements: a target at the top of the range, one above it, one below 0; a comparison that holds and
one that does not, with room for the next instruction and without. -/
theorem witness_UnconditionalBranches : validPc oneAdd (oneAdd.pc + 1) ∧ ¬ validPc oneAdd (oneAdd.pc + 2) ∧
    ¬ validPc State.reset (State.reset.pc + (-1)) := by decide
theorem witness_BranchAndLinkResults : validPc oneAdd (oneAdd.pc + 1) ∧ ¬ validPc oneAdd (oneAdd.pc + 2) := by decide
theorem witness_ConditionalBranches :
    (readReg oneAdd 2 = readReg oneAdd 2 ∧ validPc oneAdd (oneAdd.pc + 1) ∧ ¬ validPc oneAdd (oneAdd.pc + 2)) ∧
    (readReg oneAdd 2 ≠ readReg oneAdd 3 ∧ (readReg oneAdd 2).toInt < (readReg oneAdd 3).toInt ∧
      (readReg oneAdd 3).toNat < (readReg oneAdd 2).toNat) ∧
    ¬ readReg oneAdd 2 = readReg oneAdd 3 ∧ roomFor oneAdd 1 ∧ ¬ roomFor oneAdd 2 := by decide
theorem witness_RegisterJumps : validPc oneAdd (readReg oneAdd 2).toNat ∧ 16 ≤ oneAdd.cfg.pcw ∧
    ¬ validPc { oneAdd with cfg := { platform with pcw := 15 } } (readReg oneAdd 2).toNat := by decide
theorem witness_ConditionalJumps :
    (readReg oneAdd 2 = readReg oneAdd 2 ∧ validPc oneAdd (readReg oneAdd 2).toNat ∧
      ¬ validPc { oneAdd with cfg := { platform with pcw := 15 } } (readReg oneAdd 2).toNat) ∧
    ¬ readReg oneAdd 2 = readReg oneAdd 3 ∧ roomFor oneAdd 1 ∧ ¬ roomFor oneAdd 2 := by decide

/-- The pair R3, R2 at the largest value of `pc`, and one above it. -/
def pair : State := start [(2, 0xFFFF), (3, 0x00FF), (4, 0x0000), (5, 0x0100)] [] false 0xFFFFFD []

theorem witness_LongJumps : (2 : Reg).val % 2 = 0 ∧
    validPc pair ((readReg pair (2 + 1)).toNat * 65536 + (readReg pair 2).toNat : Nat) ∧
    ¬ validPc pair ((readReg pair (4 + 1)).toNat * 65536 + (readReg pair 4).toNat : Nat) := by decide
theorem witness_ConditionalLongJumps : (2 : Reg).val % 2 = 0 ∧ readReg pair 2 = readReg pair 2 ∧
    validPc pair ((readReg pair (2 + 1)).toNat * 65536 + (readReg pair 2).toNat : Nat) ∧
    ¬ validPc pair ((readReg pair (4 + 1)).toNat * 65536 + (readReg pair 4).toNat : Nat) ∧
    ¬ readReg pair 2 = readReg pair 3 ∧ roomFor pair 2 ∧ ¬ roomFor { pair with pc := 0xFFFFFE } 2 := by decide

end Sys2Proof.Tests
end

/-! PROOFS of the statements on the state (10_state.md): what a step keeps, which fields an instruction may change, and how a step
reaches `exec`. Everything rests on `exec_eq_next` and `step_eq_next`: the break halts, every other instruction is `Ordinary`. -/

namespace Sys2Proof.Machine

variable {i : Instr} {len : Nat} {d : Reg} {v : Word} {c : Bool} {s t : State}

/-! The step up to `exec` -/

/-- A running processor at words that decode checks the registers they name and executes. -/
theorem step_of_codeAt {ws : List Word} (hs : s.status = .running) (hc : codeAt s s.pc ws) (hd : decode ws = .ok (i, [])) :
    step s = andThen (checkRegs s (regFields i)) fun _ => exec i s := by
  obtain ⟨hf, hi⟩ := fetch_of_codeAt hc hd
  simp [step, hs, hf, hi]

/-- A number names no register when NREGS, or the 64 numbers an encoding can hold, end before it (R21, R22). -/
theorem hasReg_eq_false_iff {n : Nat} : hasReg s n = false ↔ s.cfg.nregs ≤ n ∨ 64 ≤ n := by
  simp only [hasReg, Bool.and_eq_false_iff, decide_eq_false_iff_not, Nat.not_lt]

/-! The invariant `State.Sound` -/

/-- The invariant holds at reset: both memories are empty, and `pc` is RESET_PC. -/
theorem resetWith_sound {c : Config} (hc : c.wf) : (State.resetWith c).Sound where
  cfg := hc
  pc := by
    obtain ⟨-, -, -, -, hreset⟩ := hc
    exact hreset
  dmem := List.Pairwise.nil
  imem := List.Pairwise.nil
  bytes := by simp [State.resetWith]
  words := by simp [State.resetWith]

/-- Only `pc` of the fields in the invariant moves at the break, and it stays below 2^PCW. -/
theorem halt_sound (hs : s.Sound) : (halt s).Sound where
  cfg := hs.cfg
  pc := by
    rcases halt_pc s with h | ⟨h, hroom⟩
    · rw [h]; exact hs.pc
    · rw [h]; exact hroom
  dmem := hs.dmem
  imem := hs.imem
  bytes := hs.bytes
  words := hs.words

/-- A data byte that an ordinary instruction leaves listed was listed before or is one that the instruction was let store to. -/
theorem Ordinary.sound (h : Ordinary i s t) (hs : s.Sound) : t.Sound where
  cfg := h.cfg ▸ hs.cfg
  pc := h.cfg ▸ h.pc
  dmem := h.wf hs.dmem
  imem := h.imem ▸ hs.imem
  bytes := by
    intro c hc
    rw [h.cfg]
    rcases h.cells c hc with hold | hplain
    · exact hs.bytes c hold
    · exact hplain
  words := by
    rw [h.imem, h.cfg]
    exact hs.words

theorem exec_sound (hs : s.Sound) (h : exec i s = .next t) : t.Sound := by
  rcases exec_eq_next h with ⟨-, rfl⟩ | ho
  · exact halt_sound hs
  · exact ho.sound hs

/-! What an instruction leaves unchanged -/

theorem exec_imem_cfg (h : exec i s = .next t) : t.imem = s.imem ∧ t.cfg = s.cfg := by
  rcases exec_eq_next h with ⟨-, rfl⟩ | ho
  · exact ⟨halt_imem s, halt_cfg s⟩
  · exact ⟨ho.imem, ho.cfg⟩

theorem exec_carry (hw : writesCarry i = false) (h : exec i s = .next t) : t.carry = s.carry := by
  rcases exec_eq_next h with ⟨-, rfl⟩ | ho
  · exact halt_carry s
  · exact ho.carry hw

theorem exec_dmem (hw : writesData i = false) (h : exec i s = .next t) : t.dmem = s.dmem := by
  rcases exec_eq_next h with ⟨-, rfl⟩ | ho
  · exact halt_dmem s
  · exact ho.dmem hw

/-- A register the instruction may not write by its own rule keeps its value, or it exists and a side effect of the NOP names it. -/
theorem exec_readReg {r : Reg} (hr : r ∉ mayWrite i) (h : exec i s = .next t) :
    readReg t r = readReg s r ∨ hasReg s r = true ∧ ∃ v, ⟨r, v⟩ ∈ effectsOf i s := by
  rcases exec_eq_next h with ⟨-, rfl⟩ | ho
  · exact .inl (readReg_congr (halt_regs s) r)
  · exact ho.regs r hr

theorem effectsOf_eq_nil (hi : ∀ d I, i ≠ .nop16 d I ∧ i ≠ .nop32 d I) : effectsOf i s = [] := by
  cases i
  case nop16 d I => exact absurd rfl (hi d I).1
  case nop32 d I => exact absurd rfl (hi d I).2
  all_goals rfl

/-! The ALU instructions -/

theorem finishAlu_carry (h : finishAlu len d v c s = .next t) : t.carry = c := by
  obtain ⟨-, rfl⟩ := finishAlu_eq_next h
  rfl

theorem finishAlu_of_no_room (h : ¬ roomFor s len) : finishAlu len d v c s = .fault (.busError (s.pc + len)) :=
  advance_of_no_room (s := { writeReg s d v with carry := c }) h

/-- Every ALU instruction but NOP writes one register and the carry and goes on; MOV and MOVI write the carry back as it was. -/
theorem exec_straightLine (s : State) (h : straightLine i = some len) : ∃ d v c, exec i s = finishAlu len d v c s := by
  cases i
  case mov16 d a | mov32 d a => cases h; exact ⟨d, readReg s a, s.carry, rfl⟩
  case movi16 d I | movi32 d I => cases h; exact ⟨d, immediate I, s.carry, rfl⟩
  all_goals cases h
  all_goals exact ⟨_, _, _, rfl⟩

end Sys2Proof.Machine

/-! The statements -/

namespace Sys2Proof.Proofs

open Sys2Proof Sys2Proof.Machine

/-- Settles O13: a step that answers a next state is one `exec`, and both the break and every ordinary instruction keep the
invariant. -/
theorem soundKeptByEveryStep : Obligations.SoundKeptByEveryStep := by
  intro s t hs h
  obtain ⟨-, i, -, hexec⟩ := step_eq_next h
  exact exec_sound hs hexec

/-- Settles O9: the words at `pc` lead to the register check, which raises for a number that names no register. -/
theorem missingRegisterRaises : Obligations.MissingRegisterRaises := by
  refine ⟨fun s n => hasReg_eq_false_iff, ?_⟩
  intro s ws i hs hc hd hmissing
  obtain ⟨n, hn, hno, hcheck⟩ := checkRegs_missing hmissing
  exact ⟨n, hn, hno, by rw [step_of_codeAt hs hc hd, hcheck, andThen_fault]⟩

/-- Settles O16, from what `exec` leaves unchanged. -/
theorem codeMemoryNeverChanges : Obligations.CodeMemoryNeverChanges := by
  intro s t h
  obtain ⟨-, i, -, hexec⟩ := step_eq_next h
  exact exec_imem_cfg hexec

/-- Settles O18: the frame of `exec` for the carry, and the false carry with which each form of ASR finishes. -/
theorem carryWritersOnly : Obligations.CarryWritersOnly := by
  refine ⟨fun i s t hw h => exec_carry hw h, ?_⟩
  rintro d a b n s t (h | h | h | h)
  all_goals exact finishAlu_carry h

/-- Settles O19: the same list of bytes, so the same value of every byte. -/
theorem dataWritersOnly : Obligations.DataWritersOnly := by
  intro i s t hw h
  have hdmem : t.dmem = s.dmem := exec_dmem hw h
  exact ⟨hdmem, byteAt_congr hdmem⟩

/-- Settles O20: a register outside `mayWrite` could change by a side effect only, and none names it. -/
theorem registerWritersOnly : Obligations.RegisterWritersOnly := by
  refine ⟨?_, fun i s hi => effectsOf_eq_nil hi⟩
  intro i s t r h hr hnone
  rcases exec_readReg hr h with hsame | ⟨-, v, hv⟩
  · exact hsame
  · exact absurd hv (hnone v)

/-- Settles O21: the register check has let through existing registers only, so `mayWrite` holds no missing one, and a side
effect on a missing one is no effect. -/
theorem missingRegistersNeverChange : Obligations.MissingRegistersNeverChange := by
  intro s t r h hno
  obtain ⟨-, i, hall, hexec⟩ := step_eq_next h
  have hr : r ∉ mayWrite i := fun hmem => by
    simp [hall r (mem_regFields_of_mem_mayWrite hmem)] at hno
  rcases exec_readReg hr hexec with hsame | ⟨hhas, -⟩
  · exact hsame
  · simp [hhas] at hno

/-- Settles O32: each of these instructions ends in the one operation `finishAlu`, which raises when there is no room. -/
theorem straightLineRaisesAtTheTop : Obligations.StraightLineRaisesAtTheTop := by
  intro i len s hi htop
  obtain ⟨d, v, c, hexec⟩ := exec_straightLine s hi
  rw [hexec]
  exact finishAlu_of_no_room (Nat.not_lt.mpr htop)

/-- Settles O7: the register check passes, and nothing stands between it and `exec`. -/
theorem stepRunsDecodedInstruction : Obligations.StepRunsDecodedInstruction := by
  intro s ws i hs hc hd hall
  rw [step_of_codeAt hs hc hd, checkRegs_eq_next.mpr hall, andThen_next]

/-- Settles O12: the status is looked at before anything is fetched. -/
theorem haltedTakesNoStep : Obligations.HaltedTakesNoStep := by
  intro s hs
  simp [step, hs]

/-- Settles O14; the parameters that the model gives the state after reset are in their ranges. -/
theorem resetIsSound : Obligations.ResetIsSound := by
  refine ⟨fun c hc => resetWith_sound hc, ?_⟩
  have hplatform : platform.wf := by decide
  exact resetWith_sound hplatform

/-- Settles O22, by whether the register read is the one written. -/
theorem registerReadAfterWrite : Obligations.RegisterReadAfterWrite := by
  intro s d r v
  by_cases hr : r = d
  · rw [if_pos hr, hr, readReg_writeReg_self]
  · rw [if_neg hr, readReg_writeReg_of_ne s v hr]

end Sys2Proof.Proofs

/-! PROOFS of the statements on memory (20_memory.md): when an access faults and with which address, what a store puts in each byte,
and what a load at the same or another address then reads. -/

namespace Sys2Proof.Machine

variable {s t : State} {a b n : Nat} {sz : Size} {v w : Word}

/-! Effective addresses and the halves of a word -/

/-- `wrap` reduces mod 2^16 (R6, R41). -/
theorem toNat_wrap (x : Int) : ((wrap x).toNat : Int) = x % 65536 := by
  have hnonneg : 0 ≤ x % 65536 := Int.emod_nonneg x (by decide)
  simp [wrap, BitVec.toNat_ofInt, Int.toNat_of_nonneg hnonneg]

theorem toNat_lowByte (v : Word) : (lowByte v).toNat = v.toNat % 256 := BitVec.toNat_ofNat v.toNat 8

/-- The high half of a word is below 256, so nothing of it is lost. -/
theorem toNat_highByte (v : Word) : (highByte v).toNat = v.toNat / 256 := by
  have hv : v.toNat < 65536 := v.isLt
  exact Nat.mod_eq_of_lt (by omega)

/-- The two bytes of a word joined are the word (R45). -/
theorem join_lowByte_highByte (v : Word) : BitVec.ofNat 16 ((lowByte v).toNat + (highByte v).toNat * 256) = v := by
  have hsum : v.toNat % 256 + v.toNat / 256 * 256 = v.toNat := by omega
  rw [toNat_lowByte, toNat_highByte, hsum, BitVec.ofNat_toNat, BitVec.setWidth_eq]

/-! Code memory -/

/-- With `imem_exists` at its default a code word exists when the image places it. -/
theorem imemExists_of_image (h : s.cfg.imem = .image) : imemExists s n = true ↔ ∃ v, Memory.get s.imem n = some v := by
  simp [imemExists, h, Option.isSome_iff_exists]

/-- With `imem_exists` given as ranges a code word exists when a range holds its address. -/
theorem imemExists_of_ranges {rs : List CodeRange} (h : s.cfg.imem = .ranges rs) :
    imemExists s n = true ↔ ∃ r ∈ rs, r.base ≤ n ∧ n < r.base + r.size := by
  simp [imemExists, h]

theorem wordAt_of_get (h : Memory.get s.imem n = some v) : wordAt s n = v := by simp [wordAt, h]

/-! The bytes of an access -/

theorem plainData_byte : plainData s a .byte ↔ plainByte s a := by simp [plainData, Size.bytes]

theorem plainData_word : plainData s a .word ↔ plainByte s a ∧ plainByte s (a + 1) := by
  constructor
  · intro h
    exact ⟨h 0 (by decide), h 1 (by decide)⟩
  · rintro ⟨hlow, hhigh⟩ k hk
    match k, hk with
    | 0, _ => exact hlow
    | 1, _ => exact hhigh

/-- The bus error names the first byte when it is missing, whatever comes above it (R42, R43). -/
theorem checkBytes_of_missing (h : missingByte s a) (sz : Size) : checkBytes s a sz.bytes = .fault (.busError a) := by
  cases sz <;> simp [Size.bytes, checkBytes, checkByte_of_missing h]

/-- The bus error names the second byte of a word when that one alone is missing. -/
theorem checkBytes_of_missing_second (h : plainByte s a) (h' : missingByte s (a + 1)) :
    checkBytes s a Size.word.bytes = .fault (.busError (a + 1 : Nat)) := by
  simp only [Size.bytes, checkBytes, checkByte_of_plain h, checkByte_of_missing h', andThen_next, andThen_fault]

/-- An access whose checks fault ends in that fault, with no value and no next state. -/
theorem memRead_of_fault {f : Fault} (h : checkBytes s a sz.bytes = .fault f) : memRead s a sz = .fault f := by
  rw [memRead, h, andThen_fault]

theorem memWrite_of_fault {f : Fault} (h : checkBytes s a sz.bytes = .fault f) : memWrite s a sz v = .fault f := by
  rw [memWrite, h, andThen_fault]

/-- Which bytes are plain memory is a matter of the parameters alone. -/
theorem plainData_congr (h : t.cfg = s.cfg) : plainData t a sz ↔ plainData s a sz := by simp only [plainData, plainByte, h]

/-! Loads after stores -/

/-- A store changes data memory only. -/
theorem storeData_eq_with_dmem (s : State) (a : Nat) (v : Word) (sz : Size) :
    storeData s a v sz = { s with dmem := (storeData s a v sz).dmem } := by cases sz <;> rfl

/-- The value at an address is a matter of the bytes read there. -/
theorem dataAt_congr (h : ∀ k < sz.bytes, byteAt t (a + k) = byteAt s (a + k)) : dataAt t a sz = dataAt s a sz := by
  cases sz with
  | byte => simp only [dataAt, show byteAt t a = byteAt s a from h 0 (by decide)]
  | word =>
    simp only [dataAt, show byteAt t a = byteAt s a from h 0 (by decide),
      show byteAt t (a + 1) = byteAt s (a + 1) from h 1 (by decide)]

theorem byteAt_storeData_low (s : State) (a : Nat) (v : Word) (sz : Size) : byteAt (storeData s a v sz) a = lowByte v := by
  rw [byteAt_storeData, if_pos rfl]

theorem byteAt_storeData_high (s : State) (a : Nat) (v : Word) : byteAt (storeData s a v .word) (a + 1) = highByte v := by
  rw [byteAt_storeData, if_neg (Nat.succ_ne_self a), if_pos ⟨rfl, rfl⟩]

/-- A byte outside the range of a store is what it was. -/
theorem byteAt_storeData_outside (h : b < a ∨ a + sz.bytes ≤ b) : byteAt (storeData s a v sz) b = byteAt s b := by
  have hfirst : b ≠ a := by
    cases sz <;> simp only [Size.bytes] at h <;> omega
  have hsecond : ¬(sz = .word ∧ b = a + 1) := by
    rintro ⟨rfl, rfl⟩
    simp only [Size.bytes] at h
    omega
  rw [byteAt_storeData, if_neg hfirst, if_neg hsecond]

/-- A value whose bytes lie outside the range of a store is what it was. -/
theorem dataAt_storeData_outside {sz' : Size} (h : b + sz'.bytes ≤ a ∨ a + sz.bytes ≤ b) :
    dataAt (storeData s a v sz) b sz' = dataAt s b sz' :=
  dataAt_congr fun k hk => byteAt_storeData_outside (by omega)

end Sys2Proof.Machine

/-! The statements -/

namespace Sys2Proof.Proofs

open Sys2Proof Sys2Proof.Machine

/-- Settles O10: `ifetch` tests the two conditions of R44 and each setting of `imem_exists` has its own equivalence. -/
theorem instructionFetchValue : Obligations.InstructionFetchValue := by
  intro s w
  refine ⟨fun hlt hex => ifetch_of_fetchable ⟨hlt, hex⟩, ?_, fun v => wordAt_of_get, imemExists_of_image,
    fun rs => imemExists_of_ranges⟩
  rintro (hge | hmissing)
  · exact ifetch_of_not_fetchable fun ⟨hlt, _⟩ => Nat.not_lt.mpr hge hlt
  · exact ifetch_of_not_fetchable fun ⟨_, hex⟩ => by simp [hmissing] at hex

/-- Settles O38: both addresses are a `wrap`. -/
theorem effectiveAddresses : Obligations.EffectiveAddresses := fun _ _ _ => ⟨toNat_wrap _, toNat_wrap _⟩

/-- Settles O39: the existing bytes by `memRead_eq_next`, a missing one by the checks, which come before any byte is read. -/
theorem memReadValue : Obligations.MemReadValue := by
  intro s a
  refine ⟨fun h => ?_, fun h h' => ?_, fun sz h => ?_, fun h h' => ?_⟩
  · exact memRead_eq_next.mpr ⟨plainData_byte.mpr h, rfl⟩
  · exact memRead_eq_next.mpr ⟨plainData_word.mpr ⟨h, h'⟩, by rw [dataAt, Nat.mul_comm 256]⟩
  · exact memRead_of_fault (checkBytes_of_missing h sz)
  · exact memRead_of_fault (checkBytes_of_missing_second h h')

/-- Settles O40: the stored bytes by `byteAt_storeData`, a missing one by the checks, which come before any byte is written. -/
theorem memWriteEffect : Obligations.MemWriteEffect := by
  intro s a v sz
  refine ⟨fun h => ?_, fun h => ?_, fun h h' => ?_⟩
  · exact ⟨storeData s a v sz, memWrite_eq_next.mpr ⟨h, rfl⟩, fun b => byteAt_storeData s a b v sz,
      storeData_eq_with_dmem s a v sz⟩
  · exact memWrite_of_fault (checkBytes_of_missing h sz)
  · exact memWrite_of_fault (checkBytes_of_missing_second h h')

/-- Settles O41: 65536 is missing whatever the regions say, as 16 bits cannot name it. -/
theorem wordAccessAt65535 : Obligations.WordAccessAt65535 := by
  intro s v h
  have hsecond : missingByte s (65535 + 1) := .inl (by decide)
  exact ⟨memRead_of_fault (checkBytes_of_missing_second h hsecond), memWrite_of_fault (checkBytes_of_missing_second h hsecond)⟩

/-- Settles O42: a store leaves existence alone, so each load answers `dataAt` after the store, and that is the stored bytes or,
outside the store's range, the bytes from before. -/
theorem loadReturnsLastStore : Obligations.LoadReturnsLastStore := by
  intro s t a v
  refine ⟨fun hstore => ?_, fun u w hlow hhigh => ?_, fun b sz sz' w hstore hload hdisjoint => ?_⟩
  · obtain ⟨hplain, rfl⟩ := memWrite_eq_next.mp hstore
    have hword := (plainData_congr (storeData_cfg s a v .word)).mpr hplain
    obtain ⟨hfirst, hsecond⟩ := plainData_word.mp hword
    refine ⟨memRead_eq_next.mpr ⟨hword, ?_⟩, memRead_eq_next.mpr ⟨plainData_byte.mpr hfirst, ?_⟩,
      memRead_eq_next.mpr ⟨plainData_byte.mpr hsecond, ?_⟩⟩
    · rw [dataAt, byteAt_storeData_low, byteAt_storeData_high, join_lowByte_highByte]
    · rw [dataAt, byteAt_storeData_low, toNat_lowByte]
    · rw [dataAt, byteAt_storeData_high, toNat_highByte]
  · obtain ⟨hfirst, rfl⟩ := memWrite_eq_next.mp hlow
    obtain ⟨hsecond, rfl⟩ := memWrite_eq_next.mp hhigh
    have hword : plainData s a .word :=
      plainData_word.mpr ⟨plainData_byte.mp hfirst, plainData_byte.mp ((plainData_congr (storeData_cfg s a v .byte)).mp hsecond)⟩
    refine memRead_eq_next.mpr ⟨(plainData_congr (by simp only [storeData_cfg])).mpr hword, ?_⟩
    have hkept : byteAt (storeData (storeData s a v .byte) (a + 1) w .byte) a = byteAt (storeData s a v .byte) a :=
      byteAt_storeData_outside (.inl (Nat.lt_succ_self a))
    rw [dataAt, hkept, byteAt_storeData_low, byteAt_storeData_low, toNat_lowByte, toNat_lowByte, Nat.mul_comm 256]
  · obtain ⟨-, rfl⟩ := memWrite_eq_next.mp hstore
    obtain ⟨hplain, rfl⟩ := memRead_eq_next.mp hload
    exact memRead_eq_next.mpr ⟨(plainData_congr (storeData_cfg s a v sz)).mpr hplain, (dataAt_storeData_outside hdisjoint).symm⟩

end Sys2Proof.Proofs

/-! PROOFS of the statements on the encoding (30_encoding.md): the decoder and the encoder invert each other, and exactly the words
of R99 are illegal. Every format is said once as the fields its words hold (`format1to4_iff` to `format17_iff`), every operand once as
what is read from its field, and every shape of operands once from the two (`regs16_iff` to `jal32_iff`); the rows of the two opcode
maps then go by shape. -/

namespace Sys2Proof

variable {w w0 w1 : Word} {i : Instr} {ws rest : List Word} {op ext : Nat}

/-! Fields of a word -/

/-- A field of `m + n` bits is the field of its high `n` bits beside that of its low `m` bits. -/
theorem bits_add (w : Word) (lo m n : Nat) : bits w lo (m + n) = bits w (lo + m) n * 2 ^ m + bits w lo m := by
  simp only [bits, Nat.pow_add, Nat.mod_mul, Nat.div_div_eq_div_mul]
  ring

/-- How the fields of the formats make up bits 12:0 of a word. -/
theorem fields_split (w : Word) :
    bits w 0 13 = bits w 9 4 * 512 + bits w 0 9 ∧ bits w 3 10 = bits w 9 4 * 64 + bits w 3 6 ∧
      bits w 6 7 = bits w 9 4 * 8 + bits w 6 3 ∧ bits w 0 9 = bits w 6 3 * 64 + bits w 0 6 ∧
      bits w 3 6 = bits w 6 3 * 8 + bits w 3 3 ∧ bits w 0 6 = bits w 3 3 * 8 + bits w 0 3 ∧
      bits w 9 4 < 16 ∧ bits w 6 3 < 8 ∧ bits w 3 3 < 8 ∧ bits w 0 3 < 8 :=
  ⟨bits_add w 0 9 4, bits_add w 3 6 4, bits_add w 6 3 4, bits_add w 0 6 3, bits_add w 3 3 3, bits_add w 0 3 3,
    bits_lt w 9 4, bits_lt w 6 3, bits_lt w 3 3, bits_lt w 0 3⟩

theorem bits_0_6_eq_zero_iff : bits w 0 6 = 0 ↔ bits w 3 3 = 0 ∧ bits w 0 3 = 0 := by
  have := fields_split w
  omega

theorem low6_lt (w0 w1 : Word) : low6 w0 w1 < 64 := by
  have h0 := bits_lt w0 0 3
  have h1 := bits_lt w1 0 3
  rw [low6]
  omega

theorem low6_eq_zero_iff : low6 w0 w1 = 0 ↔ bits w0 0 3 = 0 ∧ bits w1 0 3 = 0 := by
  rw [low6]
  omega

theorem isLong_iff : isLong w = true ↔ bits w 15 1 = 1 := decide_eq_true_iff

theorem isLong_eq_false_iff : isLong w = false ↔ bits w 15 1 = 0 := by
  rw [← Bool.not_eq_true, isLong_iff, bits]
  omega

/-! Heads: what the first word, and the top of the second, say before any operand is read -/

/-- A 16-bit word of one opcode `w[14:9]` (R70, R94). -/
structure Short (w : Word) (op : Nat) : Prop where
  isLong : isLong w = false
  opcode : bits w 9 6 = op

/-- A pair of words of one opcode `w0[14:9]`, with `w1[15:13]` clear as R99(c) asks (R70, R95). -/
structure Long (w0 w1 : Word) (op : Nat) : Prop where
  isLong : isLong w0 = true
  mark : bits w1 15 1 = 0
  clear : bits w1 13 2 = 0
  opcode : bits w0 9 6 = op

theorem short_iff : Short w op ↔ bits w 15 1 = 0 ∧ bits w 9 6 = op := by
  rw [← isLong_eq_false_iff]
  exact ⟨fun ⟨hs, hop⟩ => ⟨hs, hop⟩, fun ⟨hs, hop⟩ => ⟨hs, hop⟩⟩

theorem long_iff : Long w0 w1 op ↔ bits w0 15 1 = 1 ∧ bits w1 15 1 = 0 ∧ bits w1 13 2 = 0 ∧ bits w0 9 6 = op := by
  rw [← isLong_iff]
  exact ⟨fun ⟨hl, hm, hc, hop⟩ => ⟨hl, hm, hc, hop⟩, fun ⟨hl, hm, hc, hop⟩ => ⟨hl, hm, hc, hop⟩⟩

/-! Formats: the words of a format are those whose fields hold what it was given -/

section Formats

variable {f2 f1 f0 d a b I s lo hi : Nat}

/-- Format 7 is every 16-bit format as one field below the opcode. -/
theorem format7_iff : (op < 64 ∧ s < 512) ∧ format7 op s = [w] ↔ Short w op ∧ bits w 0 9 = s := by
  have hw := w.isLt
  simp only [format7, List.cons.injEq, and_true, short_iff, bits, ← BitVec.toNat_inj, BitVec.toNat_ofNat, Nat.reducePow]
  constructor
  · rintro ⟨⟨hop, hs⟩, h⟩
    refine ⟨⟨?_, ?_⟩, ?_⟩ <;> omega
  · rintro ⟨⟨h15, rfl⟩, rfl⟩
    omega

/-- `twoWords` is every 32-bit format as one field below the opcode and one in the second word. -/
theorem twoWords_iff : (op < 64 ∧ lo < 512 ∧ hi < 8192) ∧ twoWords op lo hi = [w0, w1] ↔
    Long w0 w1 op ∧ bits w0 0 9 = lo ∧ bits w1 0 13 = hi := by
  have hw0 := w0.isLt
  have hw1 := w1.isLt
  simp only [twoWords, List.cons.injEq, and_true, long_iff, bits, ← BitVec.toNat_inj, BitVec.toNat_ofNat, Nat.reducePow]
  constructor
  · rintro ⟨⟨hop, hlo, hhi⟩, h⟩
    refine ⟨⟨?_, ?_, ?_, ?_⟩, ?_, ?_⟩ <;> omega
  · rintro ⟨⟨h15, hm, hc, rfl⟩, rfl, rfl⟩
    omega

/-- A 16-bit format whose fields, in their ranges `B`, make up bits 8:0 exactly when `P` says what those bits hold. -/
theorem format7_iff_of {B P : Prop} (hs : B → s < 512) (hfields : B ∧ bits w 0 9 = s ↔ P) :
    (op < 64 ∧ B) ∧ format7 op s = [w] ↔ Short w op ∧ P := by
  rw [← hfields, and_left_comm, ← format7_iff]
  tauto

/-- A 32-bit format whose fields, in their ranges `B`, make up the two parts exactly when `P` says what their bits hold. -/
theorem twoWords_iff_of {B P : Prop} (hs : B → lo < 512 ∧ hi < 8192) (hfields : B ∧ bits w0 0 9 = lo ∧ bits w1 0 13 = hi ↔ P) :
    (op < 64 ∧ B) ∧ twoWords op lo hi = [w0, w1] ↔ Long w0 w1 op ∧ P := by
  rw [← hfields, and_left_comm, ← twoWords_iff]
  tauto

theorem format1to4_iff : (op < 64 ∧ f2 < 8 ∧ f1 < 8 ∧ f0 < 8) ∧ format1to4 op f2 f1 f0 = [w] ↔
    Short w op ∧ bits w 6 3 = f2 ∧ bits w 3 3 = f1 ∧ bits w 0 3 = f0 := by
  have hf := fields_split w
  rw [format1to4, Nat.add_assoc, Nat.add_assoc]
  exact format7_iff_of (by omega) (by omega)

theorem format5_iff : (op < 64 ∧ d < 8 ∧ I < 64) ∧ format5 op d I = [w] ↔
    Short w op ∧ bits w 6 3 = d ∧ bits w 0 6 = I := by
  have hf := fields_split w
  rw [format5, Nat.add_assoc]
  exact format7_iff_of (by omega) (by omega)

theorem format6_iff : (op < 64 ∧ s < 64 ∧ b < 8) ∧ format6 op s b = [w] ↔
    Short w op ∧ bits w 3 6 = s ∧ bits w 0 3 = b := by
  have hf := fields_split w
  rw [format6, Nat.add_assoc]
  exact format7_iff_of (by omega) (by omega)

theorem format8to13_iff : (op < 64 ∧ ext < 16 ∧ f2 < 64 ∧ f1 < 64 ∧ f0 < 64) ∧ format8to13 op ext f2 f1 f0 = [w0, w1] ↔
    Long w0 w1 op ∧ bits w1 9 4 = ext ∧ bits w1 6 3 * 8 + bits w0 6 3 = f2 ∧
      bits w1 3 3 * 8 + bits w0 3 3 = f1 ∧ low6 w0 w1 = f0 := by
  have hf0 := fields_split w0
  have hf1 := fields_split w1
  rw [low6]
  exact twoWords_iff_of (by omega) (by constructor <;> intro h <;> omega)

theorem format12_iff : (op < 64 ∧ s < 1024 ∧ a < 64 ∧ b < 64) ∧ format12 op s a b = [w0, w1] ↔
    Long w0 w1 op ∧ bits w1 6 7 * 8 + bits w0 6 3 = s ∧ bits w1 3 3 * 8 + bits w0 3 3 = a ∧ bits w1 0 3 * 8 + bits w0 0 3 = b := by
  have hf0 := fields_split w0
  have hf1 := fields_split w1
  exact twoWords_iff_of (by omega) (by constructor <;> intro h <;> omega)

theorem format14to15_iff : (op < 64 ∧ d < 64 ∧ I < 65536) ∧ format14to15 op d I = [w0, w1] ↔
    Long w0 w1 op ∧ bits w1 6 3 * 8 + bits w0 6 3 = d ∧ bits w1 9 4 * 4096 + bits w1 0 6 * 64 + bits w0 0 6 = I := by
  have hf0 := fields_split w0
  have hf1 := fields_split w1
  exact twoWords_iff_of (by omega) (by constructor <;> intro h <;> omega)

theorem format16_iff : (op < 64 ∧ s < 65536 ∧ b < 64) ∧ format16 op s b = [w0, w1] ↔
    Long w0 w1 op ∧ bits w1 3 10 * 64 + bits w0 3 6 = s ∧ bits w1 0 3 * 8 + bits w0 0 3 = b := by
  have hf0 := fields_split w0
  have hf1 := fields_split w1
  exact twoWords_iff_of (by omega) (by constructor <;> intro h <;> omega)

theorem format17_iff : (op < 64 ∧ s < 4194304) ∧ format17 op s = [w0, w1] ↔
    Long w0 w1 op ∧ bits w1 0 13 * 512 + bits w0 0 9 = s := by
  have hf0 := fields_split w0
  have hf1 := fields_split w1
  exact twoWords_iff_of (by omega) (by constructor <;> intro h <;> omega)

end Formats

/-! Operands: what the decoder reads from a field that the encoder has filled -/

theorem reg3_eq_iff {r : Reg} {lo : Nat} : reg3 w lo = r ↔ bits w lo 3 = r.val := by
  rw [reg3, Fin.ext_iff, Fin.val_ofNat, Nat.mod_eq_of_lt ((bits_lt w lo 3).trans (by decide))]

theorem reg6_eq_iff {r : Reg} {lo : Nat} : reg6 w0 w1 lo = r ↔ bits w1 lo 3 * 8 + bits w0 lo 3 = r.val := by
  have h0 := bits_lt w0 lo 3
  have h1 := bits_lt w1 lo 3
  rw [reg6, Fin.ext_iff, Fin.val_ofNat, Nat.mod_eq_of_lt (by omega)]

theorem lowReg_iff {r : Reg} : lowReg r = true ↔ r.val < 8 := decide_eq_true_iff

theorem unsignedFits_iff {k I : Nat} : unsignedFits k I = true ↔ I < 2 ^ k := decide_eq_true_iff

theorem signed_eq_iff {m v : Nat} {S : Int} (hv : v < 2 ^ (m + 1)) :
    signed (m + 1) v = S ↔ signedFits (m + 1) S = true ∧ v = signedField (m + 1) S := by
  constructor
  · rintro rfl
    obtain ⟨hfits, hfield⟩ := signedFits_signed m v hv
    exact ⟨hfits, hfield.symm⟩
  · rintro ⟨hfits, rfl⟩
    exact signed_signedField m S hfits

theorem shift_eq_iff {k v n : Nat} (hv : v < 2 ^ k) : v + 1 = n ↔ shiftFits k n = true ∧ v = n - 1 := by
  simp only [shiftFits, decide_eq_true_eq]
  omega

theorem shiftFits_pred_lt {k n : Nat} (h : shiftFits k n = true) : n - 1 < 2 ^ k := by
  simp only [shiftFits, decide_eq_true_eq] at h
  omega

/-- Bit 6 of the first word is the low bit of a long jump's `d` (R251, C5). -/
theorem evenReg_reg6_iff : evenReg (reg6 w0 w1 6) = true ↔ ¬ bits w0 6 1 = 1 := by
  have h : bits w0 6 3 = bits w0 7 2 * 2 + bits w0 6 1 := bits_add w0 6 1 2
  have h1 := bits_lt w0 6 1
  rw [evenReg, decide_eq_true_iff, ← reg6_eq_iff.1 rfl]
  omega

/-! Shapes: operands in the ranges of their rule, written in a format, are what the decoder reads from its words -/

section Shapes

variable {d a b : Reg} {n I : Nat} {S : Int}

theorem regs16_iff (hop : op < 64) : (lowReg d && lowReg a && lowReg b) = true ∧ format1to4 op d a b = [w] ↔
    Short w op ∧ reg3 w 6 = d ∧ reg3 w 3 = a ∧ reg3 w 0 = b := by
  simp only [reg3_eq_iff, ← format1to4_iff, lowReg_iff, hop, Bool.and_eq_true, true_and, and_assoc]

theorem mov16_iff (hop : op < 64) : (lowReg d && lowReg a) = true ∧ format1to4 op d a 0 = [w] ↔
    Short w op ∧ bits w 0 3 = 0 ∧ reg3 w 6 = d ∧ reg3 w 3 = a := by
  have hf := format1to4_iff (w := w) (op := op) (f2 := d) (f1 := a) (f0 := 0)
  simp only [reg3_eq_iff, Bool.and_eq_true, lowReg_iff]
  grind

theorem imm16_iff (hop : op < 64) : (lowReg d && lowReg a && unsignedFits 3 I) = true ∧ format1to4 op d a I = [w] ↔
    Short w op ∧ reg3 w 6 = d ∧ reg3 w 3 = a ∧ bits w 0 3 = I := by
  simp only [reg3_eq_iff, ← format1to4_iff, lowReg_iff, unsignedFits_iff, hop, Bool.and_eq_true, true_and, and_assoc, Nat.reducePow]

theorem shift16_iff (hop : op < 64) : (lowReg d && lowReg a && shiftFits 3 n) = true ∧ format1to4 op d a (n - 1) = [w] ↔
    Short w op ∧ reg3 w 6 = d ∧ reg3 w 3 = a ∧ bits w 0 3 + 1 = n := by
  have hn := shiftFits_pred_lt (k := 3) (n := n)
  have hf := format1to4_iff (w := w) (op := op) (f2 := d) (f1 := a) (f0 := n - 1)
  simp only [reg3_eq_iff, shift_eq_iff (bits_lt w 0 3), Bool.and_eq_true, lowReg_iff]
  grind

theorem mem16_iff (hop : op < 64) : (lowReg d && lowReg a && signedFits 3 S) = true ∧ format1to4 op d a (signedField 3 S) = [w] ↔
    Short w op ∧ reg3 w 6 = d ∧ reg3 w 3 = a ∧ signed 3 (bits w 0 3) = S := by
  have hS := signedField_lt 3 S
  have hf := format1to4_iff (w := w) (op := op) (f2 := d) (f1 := a) (f0 := signedField 3 S)
  simp only [reg3_eq_iff, signed_eq_iff (bits_lt w 0 3), Bool.and_eq_true, lowReg_iff]
  grind

theorem branch16_iff (hop : op < 64) : (lowReg a && lowReg b && signedFits 3 S) = true ∧ format1to4 op (signedField 3 S) a b = [w] ↔
    Short w op ∧ signed 3 (bits w 6 3) = S ∧ reg3 w 3 = a ∧ reg3 w 0 = b := by
  have hS := signedField_lt 3 S
  have hf := format1to4_iff (w := w) (op := op) (f2 := signedField 3 S) (f1 := a) (f0 := b)
  simp only [reg3_eq_iff, signed_eq_iff (bits_lt w 6 3), Bool.and_eq_true, lowReg_iff]
  grind

theorem jmp16_iff (hop : op < 64) : lowReg d = true ∧ format1to4 op d 0 0 = [w] ↔
    Short w op ∧ bits w 0 6 = 0 ∧ reg3 w 6 = d := by
  have hf := format1to4_iff (w := w) (op := op) (f2 := d) (f1 := 0) (f0 := 0)
  simp only [reg3_eq_iff, lowReg_iff, bits_0_6_eq_zero_iff]
  grind

theorem jal16_iff (hop : op < 64) : (lowReg d && lowReg b) = true ∧ format1to4 op d 0 b = [w] ↔
    Short w op ∧ bits w 3 3 = 0 ∧ reg3 w 6 = d ∧ reg3 w 0 = b := by
  have hf := format1to4_iff (w := w) (op := op) (f2 := d) (f1 := 0) (f0 := b)
  simp only [reg3_eq_iff, Bool.and_eq_true, lowReg_iff]
  grind

theorem const16_iff (hop : op < 64) : (lowReg d && unsignedFits 6 I) = true ∧ format5 op d I = [w] ↔
    Short w op ∧ reg3 w 6 = d ∧ bits w 0 6 = I := by
  simp only [reg3_eq_iff, ← format5_iff, lowReg_iff, unsignedFits_iff, hop, Bool.and_eq_true, true_and, and_assoc, Nat.reducePow]

theorem bal16_iff (hop : op < 64) : (lowReg b && signedFits 6 S) = true ∧ format6 op (signedField 6 S) b = [w] ↔
    Short w op ∧ signed 6 (bits w 3 6) = S ∧ reg3 w 0 = b := by
  have hS := signedField_lt 6 S
  have hf := format6_iff (w := w) (op := op) (s := signedField 6 S) (b := b)
  simp only [reg3_eq_iff, signed_eq_iff (bits_lt w 3 6), Bool.and_eq_true, lowReg_iff]
  grind

theorem bra16_iff (hop : op < 64) : signedFits 9 S = true ∧ format7 op (signedField 9 S) = [w] ↔
    Short w op ∧ signed 9 (bits w 0 9) = S := by
  have hS := signedField_lt 9 S
  have hf := format7_iff (w := w) (op := op) (s := signedField 9 S)
  simp only [signed_eq_iff (bits_lt w 0 9)]
  grind

theorem regs32_iff (hop : op < 64) (hext : ext < 16) : format8to13 op ext d a b = [w0, w1] ↔
    Long w0 w1 op ∧ bits w1 9 4 = ext ∧ reg6 w0 w1 6 = d ∧ reg6 w0 w1 3 = a ∧ reg6 w0 w1 0 = b := by
  have hf := format8to13_iff (w0 := w0) (w1 := w1) (op := op) (ext := ext) (f2 := d) (f1 := a) (f0 := b)
  simp only [reg6_eq_iff]
  grind [low6]

theorem mov32_iff (hop : op < 64) (hext : ext < 16) : format8to13 op ext d a 0 = [w0, w1] ↔
    Long w0 w1 op ∧ bits w1 9 4 = ext ∧ (bits w0 0 3 = 0 ∧ bits w1 0 3 = 0) ∧ reg6 w0 w1 6 = d ∧ reg6 w0 w1 3 = a := by
  have hf := format8to13_iff (w0 := w0) (w1 := w1) (op := op) (ext := ext) (f2 := d) (f1 := a) (f0 := 0)
  simp only [reg6_eq_iff, ← low6_eq_zero_iff]
  grind

theorem imm32_iff (hop : op < 64) : unsignedFits 10 I = true ∧ format8to13 op (I / 64) d a (I % 64) = [w0, w1] ↔
    Long w0 w1 op ∧ reg6 w0 w1 6 = d ∧ reg6 w0 w1 3 = a ∧ bits w1 9 4 * 64 + low6 w0 w1 = I := by
  have h6 := low6_lt w0 w1
  have hx := bits_lt w1 9 4
  have hf := format8to13_iff (w0 := w0) (w1 := w1) (op := op) (ext := I / 64) (f2 := d) (f1 := a) (f0 := I % 64)
  simp only [reg6_eq_iff, unsignedFits_iff]
  grind

/-- The logic immediates: `w1[9]` marks them, and the three bits above it are the high bits of the constant (R219 to R221). -/
theorem logic32_iff (hop : op < 64) : unsignedFits 9 I = true ∧ format8to13 op (I / 64 * 2 + 1) d a (I % 64) = [w0, w1] ↔
    Long w0 w1 op ∧ bits w1 9 4 % 2 = 1 ∧ reg6 w0 w1 6 = d ∧ reg6 w0 w1 3 = a ∧ bits w1 9 4 / 2 * 64 + low6 w0 w1 = I := by
  have h6 := low6_lt w0 w1
  have hx := bits_lt w1 9 4
  have hf := format8to13_iff (w0 := w0) (w1 := w1) (op := op) (ext := I / 64 * 2 + 1) (f2 := d) (f1 := a) (f0 := I % 64)
  simp only [reg6_eq_iff, unsignedFits_iff]
  grind

theorem shift32_iff (hop : op < 64) : shiftFits 6 n = true ∧ format8to13 op 0 d a (n - 1) = [w0, w1] ↔
    Long w0 w1 op ∧ bits w1 9 4 = 0 ∧ reg6 w0 w1 6 = d ∧ reg6 w0 w1 3 = a ∧ low6 w0 w1 + 1 = n := by
  have hn := shiftFits_pred_lt (k := 6) (n := n)
  have hf := format8to13_iff (w0 := w0) (w1 := w1) (op := op) (ext := 0) (f2 := d) (f1 := a) (f0 := n - 1)
  simp only [reg6_eq_iff, shift_eq_iff (k := 6) (low6_lt w0 w1)]
  grind

theorem mem32_iff (hop : op < 64) :
    signedFits 10 S = true ∧ format8to13 op (signedField 10 S / 64) d a (signedField 10 S % 64) = [w0, w1] ↔
      Long w0 w1 op ∧ reg6 w0 w1 6 = d ∧ reg6 w0 w1 3 = a ∧ signed 10 (bits w1 9 4 * 64 + low6 w0 w1) = S := by
  have hS := signedField_lt 10 S
  have h6 := low6_lt w0 w1
  have hx := bits_lt w1 9 4
  have hf := format8to13_iff (w0 := w0) (w1 := w1) (op := op) (ext := signedField 10 S / 64) (f2 := d) (f1 := a)
    (f0 := signedField 10 S % 64)
  rw [signed_eq_iff (by omega)]
  simp only [reg6_eq_iff]
  grind

theorem branch32_iff (hop : op < 64) : signedFits 10 S = true ∧ format12 op (signedField 10 S) a b = [w0, w1] ↔
    Long w0 w1 op ∧ signed 10 (bits w1 6 7 * 8 + bits w0 6 3) = S ∧ reg6 w0 w1 3 = a ∧ reg6 w0 w1 0 = b := by
  have hS := signedField_lt 10 S
  have h0 := bits_lt w0 6 3
  have h1 := bits_lt w1 6 7
  have hf := format12_iff (w0 := w0) (w1 := w1) (op := op) (s := signedField 10 S) (a := a) (b := b)
  rw [signed_eq_iff (by omega)]
  simp only [reg6_eq_iff]
  grind

theorem jmp32_iff (hop : op < 64) (hext : ext < 16) : format8to13 op ext d 0 0 = [w0, w1] ↔
    Long w0 w1 op ∧ bits w1 9 4 = ext ∧ (bits w0 0 6 = 0 ∧ bits w1 0 6 = 0) ∧ reg6 w0 w1 6 = d := by
  have hf := format8to13_iff (w0 := w0) (w1 := w1) (op := op) (ext := ext) (f2 := d) (f1 := 0) (f0 := 0)
  simp only [reg6_eq_iff, bits_0_6_eq_zero_iff, low6_eq_zero_iff] at hf ⊢
  grind

theorem jal32_iff (hop : op < 64) (hext : ext < 16) : format8to13 op ext d 0 b = [w0, w1] ↔
    Long w0 w1 op ∧ bits w1 9 4 = ext ∧ (bits w0 3 3 = 0 ∧ bits w1 3 3 = 0) ∧ reg6 w0 w1 6 = d ∧ reg6 w0 w1 0 = b := by
  have hf := format8to13_iff (w0 := w0) (w1 := w1) (op := op) (ext := ext) (f2 := d) (f1 := 0) (f0 := b)
  simp only [reg6_eq_iff]
  grind [low6]

/-- The constant of a NOP has 12 bits, and its high four bits in format 14 must be zero. -/
theorem nop32_iff (hop : op < 64) : unsignedFits 12 I = true ∧ format14to15 op d I = [w0, w1] ↔
    Long w0 w1 op ∧ bits w1 9 4 = 0 ∧ reg6 w0 w1 6 = d ∧ bits w1 0 6 * 64 + bits w0 0 6 = I := by
  have h0 := bits_lt w0 0 6
  have h1 := bits_lt w1 0 6
  have hf := format14to15_iff (w0 := w0) (w1 := w1) (op := op) (d := d) (I := I)
  simp only [reg6_eq_iff, unsignedFits_iff]
  grind

theorem movi32_iff (hop : op < 64) : unsignedFits 16 I = true ∧ format14to15 op d I = [w0, w1] ↔
    Long w0 w1 op ∧ reg6 w0 w1 6 = d ∧ bits w1 9 4 * 4096 + bits w1 0 6 * 64 + bits w0 0 6 = I := by
  have hf := format14to15_iff (w0 := w0) (w1 := w1) (op := op) (d := d) (I := I)
  simp only [reg6_eq_iff, unsignedFits_iff]
  grind

theorem bal32_iff (hop : op < 64) : signedFits 16 S = true ∧ format16 op (signedField 16 S) b = [w0, w1] ↔
    Long w0 w1 op ∧ signed 16 (bits w1 3 10 * 64 + bits w0 3 6) = S ∧ reg6 w0 w1 0 = b := by
  have hS := signedField_lt 16 S
  have h0 := bits_lt w0 3 6
  have h1 := bits_lt w1 3 10
  have hf := format16_iff (w0 := w0) (w1 := w1) (op := op) (s := signedField 16 S) (b := b)
  rw [signed_eq_iff (by omega)]
  simp only [reg6_eq_iff]
  grind

theorem bra32_iff (hop : op < 64) : signedFits 22 S = true ∧ format17 op (signedField 22 S) = [w0, w1] ↔
    Long w0 w1 op ∧ signed 22 (bits w1 0 13 * 512 + bits w0 0 9) = S := by
  have hS := signedField_lt 22 S
  have h0 := bits_lt w0 0 9
  have h1 := bits_lt w1 0 13
  have hf := format17_iff (w0 := w0) (w1 := w1) (op := op) (s := signedField 22 S)
  rw [signed_eq_iff (by omega)]
  grind

end Shapes

/-! Rows: the two opcode maps (R94, R95), by shape -/

/-- The encoder fills the row of the 16-bit map that the decoder reads. -/
theorem decode16_of_encode (hi : i.wf = true) (h : encode i = [w]) : isLong w = false ∧ decode16 w = .ok i := by
  cases i
  case add16 | sub16 | and16 | or16 | xor16 | asr16 | lsl16 | lsr16 | jeq16 | jne16 | jlts16 | jles16 | jltu16 | jleu16 =>
    obtain ⟨hw, rfl, rfl, rfl⟩ := (regs16_iff (by decide)).1 ⟨hi, h⟩
    exact ⟨hw.isLong, by unfold decode16; rw [hw.opcode]; rfl⟩
  case mov16 =>
    obtain ⟨hw, hz, rfl, rfl⟩ := (mov16_iff (by decide)).1 ⟨hi, h⟩
    exact ⟨hw.isLong, by unfold decode16; rw [hw.opcode]; exact if_pos hz⟩
  case addi16 | subi16 =>
    obtain ⟨hw, rfl, rfl, rfl⟩ := (imm16_iff (by decide)).1 ⟨hi, h⟩
    exact ⟨hw.isLong, by unfold decode16; rw [hw.opcode]; rfl⟩
  case asri16 | lsli16 | lsri16 =>
    obtain ⟨hw, rfl, rfl, rfl⟩ := (shift16_iff (by decide)).1 ⟨hi, h⟩
    exact ⟨hw.isLong, by unfold decode16; rw [hw.opcode]; rfl⟩
  case nop16 | movi16 =>
    obtain ⟨hw, rfl, rfl⟩ := (const16_iff (by decide)).1 ⟨hi, h⟩
    exact ⟨hw.isLong, by unfold decode16; rw [hw.opcode]; rfl⟩
  case ldb16 | ldw16 | ldbPost16 | ldwPost16 | ldbPre16 | ldwPre16 | stb16 | stw16 | stbPost16 | stwPost16 | stbPre16 | stwPre16 =>
    obtain ⟨hw, rfl, rfl, rfl⟩ := (mem16_iff (by decide)).1 ⟨hi, h⟩
    exact ⟨hw.isLong, by unfold decode16; rw [hw.opcode]; rfl⟩
  case bra16 =>
    obtain ⟨hw, rfl⟩ := (bra16_iff (by decide)).1 ⟨hi, h⟩
    exact ⟨hw.isLong, by unfold decode16; rw [hw.opcode]; rfl⟩
  case bal16 =>
    obtain ⟨hw, rfl, rfl⟩ := (bal16_iff (by decide)).1 ⟨hi, h⟩
    exact ⟨hw.isLong, by unfold decode16; rw [hw.opcode]; rfl⟩
  case beq16 | bne16 | blts16 | bles16 | bltu16 | bleu16 =>
    obtain ⟨hw, rfl, rfl, rfl⟩ := (branch16_iff (by decide)).1 ⟨hi, h⟩
    exact ⟨hw.isLong, by unfold decode16; rw [hw.opcode]; rfl⟩
  case jmp16 | rte =>
    obtain ⟨hw, hz, rfl⟩ := (jmp16_iff (by decide)).1 ⟨hi, h⟩
    exact ⟨hw.isLong, by unfold decode16; rw [hw.opcode]; exact if_pos hz⟩
  case jal16 =>
    obtain ⟨hw, hz, rfl, rfl⟩ := (jal16_iff (by decide)).1 ⟨hi, h⟩
    exact ⟨hw.isLong, by unfold decode16; rw [hw.opcode]; exact if_pos hz⟩
  all_goals cases h

/-- The encoder fills the row of the 32-bit map that the decoder reads. -/
theorem decode32_of_encode (hi : i.wf = true) (h : encode i = [w0, w1]) : isLong w0 = true ∧ decode32 w0 w1 = .ok i := by
  cases i
  case add32 | sub32 | and32 | or32 | xor32 | asr32 | lsl32 | lsr32 | addc | subc | jeq32 | jne32 | jlts32 | jles32 | jltu32 | jleu32 =>
    obtain ⟨hw, hext, rfl, rfl, rfl⟩ := (regs32_iff (by decide) (by decide)).1 h
    exact ⟨hw.isLong, by unfold decode32; rw [hw.mark, hw.clear, hw.opcode, hext]; rfl⟩
  case mov32 =>
    obtain ⟨hw, hext, hz, rfl, rfl⟩ := (mov32_iff (by decide) (by decide)).1 h
    exact ⟨hw.isLong, by unfold decode32; rw [hw.mark, hw.clear, hw.opcode, hext]; exact if_pos hz⟩
  case addi32 | subi32 =>
    obtain ⟨hw, rfl, rfl, rfl⟩ := (imm32_iff (by decide)).1 ⟨hi, h⟩
    exact ⟨hw.isLong, by unfold decode32; rw [hw.mark, hw.clear, hw.opcode]; rfl⟩
  case andi | ori | xori =>
    obtain ⟨hw, hext, rfl, rfl, rfl⟩ := (logic32_iff (by decide)).1 ⟨hi, h⟩
    have hne : bits w1 9 4 ≠ 0 := by omega
    exact ⟨hw.isLong, by simp [decode32, hw.mark, hw.clear, hw.opcode, hne, hext]⟩
  case asri32 | lsli32 | lsri32 =>
    obtain ⟨hw, hext, rfl, rfl, rfl⟩ := (shift32_iff (by decide)).1 ⟨hi, h⟩
    exact ⟨hw.isLong, by unfold decode32; rw [hw.mark, hw.clear, hw.opcode, hext]; rfl⟩
  case nop32 =>
    obtain ⟨hw, hext, rfl, rfl⟩ := (nop32_iff (by decide)).1 ⟨hi, h⟩
    exact ⟨hw.isLong, by unfold decode32; rw [hw.mark, hw.clear, hw.opcode, hext]; rfl⟩
  case movi32 =>
    obtain ⟨hw, rfl, rfl⟩ := (movi32_iff (by decide)).1 ⟨hi, h⟩
    exact ⟨hw.isLong, by unfold decode32; rw [hw.mark, hw.clear, hw.opcode]; rfl⟩
  case ldb32 | ldw32 | ldbPost32 | ldwPost32 | ldbPre32 | ldwPre32 | stb32 | stw32 | stbPost32 | stwPost32 | stbPre32 | stwPre32 =>
    obtain ⟨hw, rfl, rfl, rfl⟩ := (mem32_iff (by decide)).1 ⟨hi, h⟩
    exact ⟨hw.isLong, by unfold decode32; rw [hw.mark, hw.clear, hw.opcode]; rfl⟩
  case bra32 =>
    obtain ⟨hw, rfl⟩ := (bra32_iff (by decide)).1 ⟨hi, h⟩
    exact ⟨hw.isLong, by unfold decode32; rw [hw.mark, hw.clear, hw.opcode]; rfl⟩
  case bal32 =>
    obtain ⟨hw, rfl, rfl⟩ := (bal32_iff (by decide)).1 ⟨hi, h⟩
    exact ⟨hw.isLong, by unfold decode32; rw [hw.mark, hw.clear, hw.opcode]; rfl⟩
  case beq32 | bne32 | blts32 | bles32 | bltu32 | bleu32 =>
    obtain ⟨hw, rfl, rfl, rfl⟩ := (branch32_iff (by decide)).1 ⟨hi, h⟩
    exact ⟨hw.isLong, by unfold decode32; rw [hw.mark, hw.clear, hw.opcode]; rfl⟩
  case jmp32 =>
    obtain ⟨hw, hext, hz, rfl⟩ := (jmp32_iff (by decide) (by decide)).1 h
    exact ⟨hw.isLong, by unfold decode32; rw [hw.mark, hw.clear, hw.opcode, hext]; exact if_pos hz⟩
  case jmpl =>
    obtain ⟨hw, hext, hz, rfl⟩ := (jmp32_iff (by decide) (by decide)).1 h
    exact ⟨hw.isLong, by
      unfold decode32; rw [hw.mark, hw.clear, hw.opcode, hext]
      exact (if_neg (evenReg_reg6_iff.1 hi)).trans (if_pos hz)⟩
  case jal32 =>
    obtain ⟨hw, hext, hz, rfl, rfl⟩ := (jal32_iff (by decide) (by decide)).1 h
    exact ⟨hw.isLong, by unfold decode32; rw [hw.mark, hw.clear, hw.opcode, hext]; exact if_pos hz⟩
  case jall =>
    obtain ⟨hw, hext, hz, rfl, rfl⟩ := (jal32_iff (by decide) (by decide)).1 h
    exact ⟨hw.isLong, by
      unfold decode32; rw [hw.mark, hw.clear, hw.opcode, hext]
      exact (if_neg (evenReg_reg6_iff.1 hi)).trans (if_pos hz)⟩
  case jeql | jnel | jltsl | jlesl | jltul | jleul =>
    obtain ⟨hw, hext, rfl, rfl, rfl⟩ := (regs32_iff (by decide) (by decide)).1 h
    exact ⟨hw.isLong, by
      unfold decode32; rw [hw.mark, hw.clear, hw.opcode, hext]
      exact if_neg (evenReg_reg6_iff.1 hi)⟩
  all_goals cases h

/-- What the decoder reads from a 16-bit word is in the ranges of its rule and encodes to that word: each accepted row is one case
of the law of its shape, which its format and operands select. -/
theorem encode_of_decode16 (hs : isLong w = false) (h : decode16 w = .ok i) : i.wf = true ∧ encode i = [w] := by
  have short {op : Nat} (hop : bits w 9 6 = op) : Short w op := ⟨hs, hop⟩
  dsimp only [decode16] at h
  split at h
  all_goals (repeat' split at h) <;> cases h
  all_goals
    have hw := short ‹bits w 9 6 = _›
    simp only [Instr.wf, encode, regs16_iff, mov16_iff, imm16_iff, shift16_iff, mem16_iff, branch16_iff, jmp16_iff, jal16_iff,
      const16_iff, bal16_iff, bra16_iff, Nat.reduceLT, and_self, *]

/-- What the decoder reads from a pair of words is in the ranges of its rule and encodes to that pair. -/
theorem encode_of_decode32 (hl : isLong w0 = true) (h : decode32 w0 w1 = .ok i) : i.wf = true ∧ encode i = [w0, w1] := by
  dsimp only [decode32] at h
  split at h
  · cases h
  next hm =>
  split at h
  · cases h
  next hc =>
  have long {op : Nat} (hop : bits w0 9 6 = op) : Long w0 w1 op := ⟨hl, by have := bits_lt w1 15 1; omega, not_not.1 hc, hop⟩
  split at h
  all_goals (repeat' split at h) <;> cases h
  all_goals
    have hw := long ‹bits w0 9 6 = _›
    simp only [Instr.wf, encode, regs32_iff, mov32_iff, imm32_iff, logic32_iff, shift32_iff, mem32_iff, branch32_iff, jmp32_iff,
      jal32_iff, nop32_iff, movi32_iff, bal32_iff, bra32_iff, evenReg_reg6_iff, Nat.reduceLT, and_self, not_false_eq_true, *]

/-! `decode`, an equation per case; `encode`, one or two words -/

theorem decode_short (hs : isLong w = false) (rest : List Word) : decode (w :: rest) = (decode16 w).map fun i => (i, rest) := by
  simp only [decode, hs]
  cases decode16 w <;> rfl

theorem decode_long_alone (hl : isLong w0 = true) : decode [w0] = .error .noSecondWord := by
  simp only [decode, hl]
  rfl

theorem decode_long (hl : isLong w0 = true) (w1 : Word) (rest : List Word) :
    decode (w0 :: w1 :: rest) = (decode32 w0 w1).map fun i => (i, rest) := by
  simp only [decode, hl]
  cases decode32 w0 w1 <;> rfl

theorem encode_length (i : Instr) : (encode i).length = 1 ∨ (encode i).length = 2 := by
  cases i <;> simp [encode, format1to4, format5, format6, format7, format8to13, format12, format14to15, format16, format17, twoWords]

/-! Accepting and rejecting, through the decoder's own combinators -/

section Except

variable {α β : Type} {f : α → β} {x y : Except Illegal α} {p : Prop} [Decidable p] {b : β}

theorem map_eq_ok_iff : x.map f = .ok b ↔ ∃ a, x = .ok a ∧ f a = b := by
  cases x <;> simp [Except.map]

theorem map_rejects_iff : (∃ e, x.map f = .error e) ↔ ∃ e, x = .error e := by
  cases x <;> simp [Except.map]

theorem ite_rejects_iff : (∃ e, (if p then x else y) = .error e) ↔ p ∧ (∃ e, x = .error e) ∨ ¬ p ∧ ∃ e, y = .error e := by
  split <;> simp [*]

end Except

/-! The two directions -/

theorem decode_encode (hi : i.wf = true) (rest : List Word) : decode (encode i ++ rest) = .ok (i, rest) := by
  rcases encode_length i with hlen | hlen
  · obtain ⟨w, he⟩ := List.length_eq_one_iff.1 hlen
    obtain ⟨hs, hd⟩ := decode16_of_encode hi he
    rw [he, List.singleton_append, decode_short hs, hd]
    rfl
  · obtain ⟨w0, w1, he⟩ := List.length_eq_two.1 hlen
    obtain ⟨hl, hd⟩ := decode32_of_encode hi he
    rw [he, List.cons_append, List.singleton_append, decode_long hl, hd]
    rfl

theorem encode_of_decode (h : decode ws = .ok (i, rest)) : i.wf = true ∧ ws = encode i ++ rest := by
  rcases ws with _ | ⟨w0, ws⟩
  · cases h
  cases hl : isLong w0 with
  | false =>
    obtain ⟨j, hd, hj⟩ := map_eq_ok_iff.1 (decode_short hl ws ▸ h)
    cases hj
    obtain ⟨hi, he⟩ := encode_of_decode16 hl hd
    exact ⟨hi, by rw [he, List.singleton_append]⟩
  | true =>
    rcases ws with _ | ⟨w1, ws⟩
    · cases decode_long_alone hl ▸ h
    obtain ⟨j, hd, hj⟩ := map_eq_ok_iff.1 (decode_long hl w1 ws ▸ h)
    cases hj
    obtain ⟨hi, he⟩ := encode_of_decode32 hl hd
    exact ⟨hi, by rw [he, List.cons_append, List.singleton_append]⟩

/-- `w[14:13]`, `w[10:9]` and `w[12:9]` are parts of the opcode `w[14:9]`. -/
theorem opcode_parts (w : Word) :
    bits w 13 2 = bits w 9 6 / 16 ∧ bits w 9 2 = bits w 9 6 % 4 ∧ bits w 9 4 = bits w 9 6 % 16 ∧ bits w 9 6 < 64 := by
  have h4 : bits w 9 6 = bits w 13 2 * 16 + bits w 9 4 := bits_add w 9 4 2
  have h2 : bits w 9 6 = bits w 11 4 * 4 + bits w 9 2 := bits_add w 9 2 4
  have := bits_lt w 9 4
  have := bits_lt w 9 2
  have := bits_lt w 9 6
  omega

end Sys2Proof

/-! PROOF of the statement on assembler lines: a line can be read back. The rows are grouped by the forms of their operands; within a
group the mnemonic and the length name the instruction. -/

namespace Sys2Proof.Machine

/-- Lines of one register. -/
def regLine : String → Nat → Option (Reg → Instr)
  | "JMP", 1 => some .jmp16 | "JMP", 2 => some .jmp32
  | "RTE", 1 => some .rte | "JMPL", 2 => some .jmpl
  | _, _ => none

/-- Lines of two registers. -/
def regs2Line : String → Nat → Option (Reg → Reg → Instr)
  | "MOV", 1 => some .mov16 | "MOV", 2 => some .mov32
  | "JAL", 1 => some .jal16 | "JAL", 2 => some .jal32
  | "JALL", 2 => some .jall
  | _, _ => none

/-- Lines of three registers. -/
def regs3Line : String → Nat → Option (Reg → Reg → Reg → Instr)
  | "ADD", 1 => some .add16 | "ADD", 2 => some .add32
  | "SUB", 1 => some .sub16 | "SUB", 2 => some .sub32
  | "AND", 1 => some .and16 | "AND", 2 => some .and32
  | "OR", 1 => some .or16 | "OR", 2 => some .or32
  | "XOR", 1 => some .xor16 | "XOR", 2 => some .xor32
  | "ASR", 1 => some .asr16 | "ASR", 2 => some .asr32
  | "LSL", 1 => some .lsl16 | "LSL", 2 => some .lsl32
  | "LSR", 1 => some .lsr16 | "LSR", 2 => some .lsr32
  | "JEQ", 1 => some .jeq16 | "JEQ", 2 => some .jeq32
  | "JNE", 1 => some .jne16 | "JNE", 2 => some .jne32
  | "JLTS", 1 => some .jlts16 | "JLTS", 2 => some .jlts32
  | "JLES", 1 => some .jles16 | "JLES", 2 => some .jles32
  | "JLTU", 1 => some .jltu16 | "JLTU", 2 => some .jltu32
  | "JLEU", 1 => some .jleu16 | "JLEU", 2 => some .jleu32
  | "ADDC", 2 => some .addc | "SUBC", 2 => some .subc
  | "JEQL", 2 => some .jeql | "JNEL", 2 => some .jnel
  | "JLTSL", 2 => some .jltsl | "JLESL", 2 => some .jlesl
  | "JLTUL", 2 => some .jltul | "JLEUL", 2 => some .jleul
  | _, _ => none

/-- Lines of one register and an unsigned constant. -/
def regConstLine : String → Nat → Option (Reg → Nat → Instr)
  | "NOP", 1 => some .nop16 | "NOP", 2 => some .nop32
  | "MOVI", 1 => some .movi16 | "MOVI", 2 => some .movi32
  | _, _ => none

/-- Lines of two registers and an unsigned constant or a shift amount. -/
def regs2ConstLine : String → Nat → Option (Reg → Reg → Nat → Instr)
  | "ADDI", 1 => some .addi16 | "ADDI", 2 => some .addi32
  | "SUBI", 1 => some .subi16 | "SUBI", 2 => some .subi32
  | "ASRI", 1 => some .asri16 | "ASRI", 2 => some .asri32
  | "LSLI", 1 => some .lsli16 | "LSLI", 2 => some .lsli32
  | "LSRI", 1 => some .lsri16 | "LSRI", 2 => some .lsri32
  | "ANDI", 2 => some .andi | "ORI", 2 => some .ori | "XORI", 2 => some .xori
  | _, _ => none

/-- Lines of a branch distance. -/
def branchLine : String → Nat → Option (Int → Instr)
  | "BRA", 1 => some .bra16 | "BRA", 2 => some .bra32
  | _, _ => none

/-- Lines of a branch distance and a link register. -/
def branchLinkLine : String → Nat → Option (Int → Reg → Instr)
  | "BAL", 1 => some .bal16 | "BAL", 2 => some .bal32
  | _, _ => none

/-- Lines of a branch distance and two registers. -/
def branchRegsLine : String → Nat → Option (Int → Reg → Reg → Instr)
  | "BEQ", 1 => some .beq16 | "BEQ", 2 => some .beq32
  | "BNE", 1 => some .bne16 | "BNE", 2 => some .bne32
  | "BLTS", 1 => some .blts16 | "BLTS", 2 => some .blts32
  | "BLES", 1 => some .bles16 | "BLES", 2 => some .bles32
  | "BLTU", 1 => some .bltu16 | "BLTU", 2 => some .bltu32
  | "BLEU", 1 => some .bleu16 | "BLEU", 2 => some .bleu32
  | _, _ => none

/-- Loads and stores at `(Ra,S)`. -/
def indexedLine : String → Nat → Option (Reg → Reg → Int → Instr)
  | "LDB", 1 => some .ldb16 | "LDB", 2 => some .ldb32
  | "LDW", 1 => some .ldw16 | "LDW", 2 => some .ldw32
  | "STB", 1 => some .stb16 | "STB", 2 => some .stb32
  | "STW", 1 => some .stw16 | "STW", 2 => some .stw32
  | _, _ => none

/-- Loads and stores at `(Ra+,S)`. -/
def postIncrementLine : String → Nat → Option (Reg → Reg → Int → Instr)
  | "LDB", 1 => some .ldbPost16 | "LDB", 2 => some .ldbPost32
  | "LDW", 1 => some .ldwPost16 | "LDW", 2 => some .ldwPost32
  | "STB", 1 => some .stbPost16 | "STB", 2 => some .stbPost32
  | "STW", 1 => some .stwPost16 | "STW", 2 => some .stwPost32
  | _, _ => none

/-- Loads and stores at `(-Ra,S)`. -/
def preDecrementLine : String → Nat → Option (Reg → Reg → Int → Instr)
  | "LDB", 1 => some .ldbPre16 | "LDB", 2 => some .ldbPre32
  | "LDW", 1 => some .ldwPre16 | "LDW", 2 => some .ldwPre32
  | "STB", 1 => some .stbPre16 | "STB", 2 => some .stbPre32
  | "STW", 1 => some .stwPre16 | "STW", 2 => some .stwPre32
  | _, _ => none

/-- The instruction of an assembler line (R102, R105): the operands' forms choose the group. -/
def readLine : AsmLine → Option Instr
  | ⟨m, [.reg d], n⟩ => (regLine m n).map fun f => f d
  | ⟨m, [.reg d, .reg a], n⟩ => (regs2Line m n).map fun f => f d a
  | ⟨m, [.reg d, .reg a, .reg b], n⟩ => (regs3Line m n).map fun f => f d a b
  | ⟨m, [.reg d, .const I], n⟩ => (regConstLine m n).map fun f => f d I.toNat
  | ⟨m, [.reg d, .reg a, .const I], n⟩ => (regs2ConstLine m n).map fun f => f d a I.toNat
  | ⟨m, [.const S], n⟩ => (branchLine m n).map fun f => f S
  | ⟨m, [.const S, .reg b], n⟩ => (branchLinkLine m n).map fun f => f S b
  | ⟨m, [.const S, .reg a, .reg b], n⟩ => (branchRegsLine m n).map fun f => f S a b
  | ⟨m, [.reg d, .indexed a S], n⟩ => (indexedLine m n).map fun f => f d a S
  | ⟨m, [.indexed d S, .reg a], n⟩ => (indexedLine m n).map fun f => f d a S
  | ⟨m, [.reg d, .postIncrement a S], n⟩ => (postIncrementLine m n).map fun f => f d a S
  | ⟨m, [.postIncrement d S, .reg a], n⟩ => (postIncrementLine m n).map fun f => f d a S
  | ⟨m, [.reg d, .preDecrement a S], n⟩ => (preDecrementLine m n).map fun f => f d a S
  | ⟨m, [.preDecrement d S, .reg a], n⟩ => (preDecrementLine m n).map fun f => f d a S
  | _ => none

theorem readLine_asm (i : Instr) : readLine (asm i) = some i := by
  cases i <;> rfl

end Sys2Proof.Machine

/-! The statements -/

namespace Sys2Proof.Proofs

open Sys2Proof Sys2Proof.Machine

/-- Settles O1, by the length of the encoding and the rows of its opcode map. -/
theorem decodeEncodeRoundTrip : Obligations.DecodeEncodeRoundTrip := fun _ rest hi => decode_encode hi rest

/-- Settles O2, by the rows the decoder accepts. -/
theorem encodeDecodeRoundTrip : Obligations.EncodeDecodeRoundTrip := fun _ _ _ => encode_of_decode

/-- Settles O4, by the opcode: the words of a row are illegal by its must-be-zero field, and what is left are the opcodes of (a). -/
theorem illegalWords16 : Obligations.IllegalWords16 := by
  intro w hs
  obtain ⟨hclass, hform, hlow, hlt⟩ := opcode_parts w
  rw [decode_short hs, map_rejects_iff, hclass, hform, hlow]
  dsimp only [decode16]
  generalize bits w 9 6 = op at *
  split
  case h_46 =>
    -- the last arm: an opcode the map does not list
    simp only [Except.error.injEq, exists_eq', true_iff]
    grind
  all_goals simp [ite_rejects_iff]

/-- Settles O5, by `w1[15:13]` and then by the opcode: each row has its second-word codes, must-be-zero fields and odd `d`, and what
is left are the opcodes of (c). -/
theorem illegalWords32 : Obligations.IllegalWords32 := by
  intro w0 w1 hl
  obtain ⟨hclass, hform, -, hlt⟩ := opcode_parts w0
  have hx : bits w1 9 4 = bits w1 10 3 * 2 + bits w1 9 1 := bits_add w1 9 1 3
  have hx1 := bits_lt w1 9 1
  rw [decode_long hl, map_rejects_iff, hclass, hform]
  dsimp only [decode32]
  by_cases hm : bits w1 15 1 = 1
  · simp [hm]
  by_cases hc : bits w1 13 2 = 0
  case neg => simp [hm, hc]
  simp only [hm, hc, ne_eq, not_true_eq_false, if_false, false_or]
  clear hclass hform
  generalize bits w0 9 6 = op at *
  split
  case h_45 =>
    -- the last arm: an opcode the map does not list
    simp only [Except.error.injEq, exists_eq', true_iff]
    grind
  all_goals simp [ite_rejects_iff]
  all_goals omega

/-- Settles O6: a line can be read back. -/
theorem assemblerLineIdentifies : Obligations.AssemblerLineIdentifies := by
  intro i j h
  have hread : some i = some j := by rw [← readLine_asm i, h, readLine_asm j]
  exact Option.some.inj hread

end Sys2Proof.Proofs

/-! PROOFS of the statements on the ALU instructions and NOP (40_alu16.md, 44_alu32.md). Every result is `finishAlu` or `advance` on
values that one law per ALU operation gives; every encoding is a format whose words one law per format gives; every NOP but the
conventional ones advances from `nopState`. -/

namespace Sys2Proof.Machine

variable {i : Instr} {len : Nat} {d a b : Reg} {op ext f2 f1 f0 k m n I : Nat} {f : AluOp} {c : Bool} {x y v : Word} {s t : State}
  {line : AsmLine} {p : Bool} {P fit : Prop}

/-! ALU operations: the result and the carry, by the value `n` of the right operand, be it a register's or a constant's -/

theorem toNat_immediate (hI : I < 65536) : (immediate I).toNat = I := (BitVec.toNat_ofNat I 16).trans (Nat.mod_eq_of_lt hI)

theorem wrap_natCast (n : Nat) : wrap n = BitVec.ofNat 16 n := BitVec.ofInt_natCast 16 n

theorem aluAdd_eq (hy : y.toNat = n) : aluAdd c x y = (BitVec.ofNat 16 (x.toNat + n), decide (x.toNat + n ≥ 65536)) := by
  rw [aluAdd, hy, ← wrap_natCast, Nat.cast_add]

theorem aluSub_eq (hy : y.toNat = n) : aluSub c x y = (BitVec.ofInt 16 (x.toNat - n), decide (n > x.toNat)) := by
  rw [aluSub, hy, wrap]

theorem aluAsr_eq (hy : y.toNat = n) : aluAsr c x y = (BitVec.ofNat 16 ((x.toNat + c.toNat * 65536) / 2 ^ n), false) := by
  rw [aluAsr, hy, Nat.shiftRight_eq_div_pow]

theorem aluLsl_eq (hy : y.toNat = n) : aluLsl c x y = (if n ≥ 16 then 0 else BitVec.ofNat 16 (x.toNat * 2 ^ n), c) := by
  simp only [aluLsl, hy, Nat.shiftLeft_eq]

theorem aluLsr_eq (hy : y.toNat = n) : aluLsr c x y = (if n ≥ 16 then 0 else BitVec.ofNat 16 (x.toNat / 2 ^ n), c) := by
  simp only [aluLsr, hy, Nat.shiftRight_eq_div_pow]

/-- The carry and a register are 17 bits, so a shift by 17 or more leaves none of them (R127). -/
theorem asr_value_eq_zero (x : Word) (c : Bool) (hn : 17 ≤ n) : BitVec.ofNat 16 ((x.toNat + c.toNat * 65536) / 2 ^ n) = 0 := by
  have hbits : x.toNat + c.toNat * 65536 < 2 ^ 17 := by
    have hx : x.toNat < 65536 := x.isLt
    have hc : c.toNat ≤ 1 := Bool.toNat_le c
    omega
  have hpow : 2 ^ 17 ≤ 2 ^ n := Nat.pow_le_pow_right (by decide) hn
  rw [Nat.div_eq_of_lt (hbits.trans_le hpow)]
  rfl

/-! ALU instructions: the state after each shape -/

theorem finishAlu_of_room (h : roomFor s len) :
    finishAlu len d v c s = .next { writeReg s d v with carry := c, pc := s.pc + len } :=
  advance_of_room (s := { writeReg s d v with carry := c }) h

theorem computes_registers (hexec : exec i s = aluRegisters len f d a b s)
    (hf : f s.carry (readReg s a) (readReg s b) = (v, c)) : computes i len d v c s := by
  intro hroom
  rw [hexec, aluRegisters, hf]
  exact finishAlu_of_room hroom

theorem computes_immediate (hexec : exec i s = aluImmediate len f d a I s)
    (hf : f s.carry (readReg s a) (immediate I) = (v, c)) : computes i len d v c s := by
  intro hroom
  rw [hexec, aluImmediate, hf]
  exact finishAlu_of_room hroom

/-- MOV and MOVI: the register is written and nothing is said of the carry (R130, R136). -/
theorem computes_move (hexec : exec i s = advance len (writeReg s d v)) : computes i len d v s.carry s := by
  intro hroom
  rw [hexec]
  exact advance_of_room (s := writeReg s d v) hroom

/-! Operand ranges -/

theorem unsignedFits_iff_le (hm : 2 ^ k = m + 1) : unsignedFits k I = true ↔ I ≤ m := by
  rw [unsignedFits_iff, hm, Nat.lt_succ_iff]

theorem shiftFits_iff : shiftFits k n = true ↔ 1 ≤ n ∧ n ≤ 2 ^ k := decide_eq_true_iff

theorem lowReg_and_iff (hp : p = true ↔ P) : (lowReg d && p) = true ↔ d.val < 8 ∧ P := by
  rw [Bool.and_eq_true, lowReg_iff, hp]

theorem lowReg2_and_iff (hp : p = true ↔ P) : (lowReg d && lowReg a && p) = true ↔ d.val < 8 ∧ a.val < 8 ∧ P := by
  rw [Bool.and_assoc, lowReg_and_iff (lowReg_and_iff hp)]

/-! Formats: their words as an opcode and three 3-bit fields each; in the first of two words bit 15 stands above the opcode -/

theorem twoWords_eq_words (op lo hi : Nat) : twoWords op lo hi = [(op + 64) * 512 + lo, hi].map (BitVec.ofNat 16) := by
  rw [twoWords, Nat.add_comm 64]
  rfl

theorem format5_eq_words (op d I : Nat) : format5 op d I = [word3 op d (I / 8) (I % 8)].map (BitVec.ofNat 16) := by
  have hI : I = I / 8 * 8 + I % 8 := by omega
  rw [format5, List.map_singleton, word3, Nat.add_assoc _ (I / 8 * 8), ← hI]

theorem format8to13_eq_words (op ext f2 f1 f0 : Nat) : format8to13 op ext f2 f1 f0 =
    [word3 (op + 64) (f2 % 8) (f1 % 8) (f0 % 8), word3 ext (f2 / 8) (f1 / 8) (f0 / 8)].map (BitVec.ofNat 16) := by
  rw [format8to13, twoWords_eq_words, ← Nat.add_assoc, ← Nat.add_assoc]

theorem format14to15_eq_words (op d I : Nat) : format14to15 op d I =
    [word3 (op + 64) (d % 8) (I / 8 % 8) (I % 8), word3 (I / 4096) (d / 8) (I / 512 % 8) (I / 64 % 8)].map (BitVec.ofNat 16) := by
  have hlow : I % 64 = I / 8 % 8 * 8 + I % 8 := by omega
  have hhigh : I / 64 % 64 = I / 512 % 8 * 8 + I / 64 % 8 := by omega
  rw [format14to15, twoWords_eq_words, hlow, hhigh]
  simp only [word3, Nat.add_assoc]

/-! What an instruction is written as, by the format of its words -/

theorem written_fields16 (hasm : asm i = line) (hwf : i.wf = true ↔ fit) (henc : encode i = format1to4 op f2 f1 f0) :
    written i line fit [word3 op f2 f1 f0] := ⟨hasm, hwf, henc⟩

theorem written_const16 (hasm : asm i = line) (hwf : i.wf = true ↔ fit) (henc : encode i = format5 op d I) :
    written i line fit [word3 op d.val (I / 8) (I % 8)] := ⟨hasm, hwf, henc.trans (format5_eq_words op d I)⟩

theorem written_fields32 (hasm : asm i = line) (hwf : i.wf = true ↔ fit) (henc : encode i = format8to13 op ext f2 f1 f0) :
    written i line fit [word3 (op + 64) (f2 % 8) (f1 % 8) (f0 % 8), word3 ext (f2 / 8) (f1 / 8) (f0 / 8)] :=
  ⟨hasm, hwf, henc.trans (format8to13_eq_words op ext f2 f1 f0)⟩

/-- Of a constant longer than its field, the bits from the seventh up stand in `ext` (formats 10 and 11). -/
theorem written_immediate32 (hasm : asm i = line) (hwf : i.wf = true ↔ fit) (henc : encode i = format8to13 op ext d a (I % 64)) :
    written i line fit
      [word3 (op + 64) (d.val % 8) (a.val % 8) (I % 8), word3 ext (d.val / 8) (a.val / 8) (I / 8 % 8)] := by
  have hlow : I % 64 % 8 = I % 8 := by omega
  have hhigh : I % 64 / 8 = I / 8 % 8 := by omega
  rw [← hlow, ← hhigh]
  exact written_fields32 hasm hwf henc

theorem written_const32 (hasm : asm i = line) (hwf : i.wf = true ↔ fit) (henc : encode i = format14to15 op d I) :
    written i line fit
      [word3 (op + 64) (d.val % 8) (I / 8 % 8) (I % 8), word3 (I / 4096) (d.val / 8) (I / 512 % 8) (I / 64 % 8)] :=
  ⟨hasm, hwf, henc.trans (format14to15_eq_words op d I)⟩

/-! NOP -/

/-- An advance after changes that leave `pc` and the parameters is one from the `pc` before them. -/
theorem advance_of_pc_cfg_eq (len : Nat) (hpc : t.pc = s.pc) (hcfg : t.cfg = s.cfg) :
    (roomFor s len → advance len t = .next { t with pc := s.pc + len }) ∧
      (¬ roomFor s len → advance len t = .fault (.busError (s.pc + len))) := by
  rw [roomFor, ← hpc, ← hcfg]
  exact ⟨advance_of_room, advance_of_no_room⟩

/-- A NOP that is not one of the two conventions of R121 has the implementation's side effect. -/
theorem exec_nop16_of_other (h : ¬ (d = 0 ∧ (I = 0 ∨ I = 1))) : exec (.nop16 d I) s = implementationNop 1 d I s := by
  have hbreak : ¬ (d.val = 0 ∧ I = 0) := fun ⟨hd, hI⟩ => h ⟨Fin.ext hd, .inl hI⟩
  have htrue : ¬ (d.val = 0 ∧ I = 1) := fun ⟨hd, hI⟩ => h ⟨Fin.ext hd, .inr hI⟩
  exact (if_neg hbreak).trans (if_neg htrue)

theorem implementationNop_of_refuse (h : nopPolicy s.cfg d I = .refuse) :
    implementationNop len d I s = .refused (.nopEffect d I) := by
  simp only [implementationNop, h]

theorem implementationNop_eq_advance (h : nopPolicy s.cfg d I ≠ .refuse) :
    implementationNop len d I s = advance len (nopState s d I) := by
  cases hpolicy : nopPolicy s.cfg d I with
  | refuse => exact absurd hpolicy h
  | effects es => simp [implementationNop, nopState, nopEffects, hpolicy]
  | free => simp [implementationNop, nopState, nopEffects, hpolicy]

/-- Side effects, and the draw of a free value, leave all but the registers and the count of draws. -/
theorem nopState_frame (s : State) (d : Reg) (I : Nat) :
    (nopState s d I).pc = s.pc ∧ (nopState s d I).dmem = s.dmem ∧ sameElsewhere s (nopState s d I) := by
  by_cases hfree : nopPolicy s.cfg d I = .free
  · simp [nopState, sameElsewhere, hfree]
  · simp [nopState, sameElsewhere, hfree]

/-- With "no effect" as the setting a NOP leaves the state as it is before the advance. -/
theorem nopState_of_no_effects (h : nopPolicy s.cfg d I = .effects []) : nopState s d I = s := by
  simp [nopState, nopEffects, h]

/-- The advance after the side effects is one from the NOP's own `pc`, in the range of its own parameters. -/
theorem implementationNop_advances (len : Nat) (h : nopPolicy s.cfg d I ≠ .refuse) :
    (roomFor s len → implementationNop len d I s = .next { nopState s d I with pc := s.pc + len }) ∧
      (¬ roomFor s len → implementationNop len d I s = .fault (.busError (s.pc + len))) := by
  obtain ⟨hpc, -, -, -, -, hcfg⟩ := nopState_frame s d I
  rw [implementationNop_eq_advance h]
  exact advance_of_pc_cfg_eq len hpc hcfg

theorem implementationNop_only_advances (len : Nat) (h : nopPolicy s.cfg d I = .effects []) :
    (roomFor s len → implementationNop len d I s = .next { s with pc := s.pc + len }) ∧
      (¬ roomFor s len → implementationNop len d I s = .fault (.busError (s.pc + len))) := by
  have hadvances := implementationNop_advances len (by simp [h] : nopPolicy s.cfg d I ≠ .refuse)
  rwa [nopState_of_no_effects h] at hadvances

theorem nopPolicy_of_nil {cfg : Config} (h : cfg.nopFor = []) (d I : Nat) : nopPolicy cfg d I = cfg.nop := by
  simp [nopPolicy, h]

/-- The first rule for `d` and `I` decides. -/
theorem nopPolicy_of_cons {cfg : Config} {r : NopRule} {rs : List NopRule} (h : cfg.nopFor = r :: rs) (d I : Nat) :
    nopPolicy cfg d I = if r.d = d ∧ r.I = I then r.policy else nopPolicy { cfg with nopFor := rs } d I := by
  by_cases hr : r.d = d ∧ r.I = I
  · simp [nopPolicy, h, hr]
  · simp [nopPolicy, h, hr]

/-! Side effects -/

/-- A state that agrees with another in every field but the registers. -/
theorem eq_with_regs (hpc : t.pc = s.pc) (hcarry : t.carry = s.carry) (hdmem : t.dmem = s.dmem) (himem : t.imem = s.imem)
    (hstatus : t.status = s.status) (hdraws : t.draws = s.draws) (hcfg : t.cfg = s.cfg) : t = { s with regs := t.regs } := by
  rw [← hpc, ← hcarry, ← hdmem, ← himem, ← hstatus, ← hdraws, ← hcfg]

theorem applyEffects_eq_with_regs (es : List SideEffect) (s : State) :
    applyEffects es s = { s with regs := (applyEffects es s).regs } :=
  eq_with_regs (applyEffects_pc es s) (applyEffects_carry es s) (applyEffects_dmem es s) (applyEffects_imem es s)
    (applyEffects_status es s) (applyEffects_draws es s) (applyEffects_cfg es s)

end Sys2Proof.Machine

/-! The statements -/

namespace Sys2Proof.Proofs

open Sys2Proof Sys2Proof.Machine

/-- Settles O60: the first two clauses are the definitions; for the third, a side effect leaves every field but the registers, and
`readReg_applyEffects` says which registers a list can reach. -/
theorem sideEffectsOfNops : Obligations.SideEffectsOfNops := by
  refine ⟨fun s r v => rfl, fun s e es => ⟨applyEffects_nil s, applyEffects_cons e es s⟩,
    fun s es => ⟨applyEffects_eq_with_regs es s, ?_⟩⟩
  intro r hnot
  rcases readReg_applyEffects es s r with hsame | ⟨hhas, v, hv⟩
  · exact hsame
  · rcases hnot with hunnamed | hmissing
    · exact absurd hv (hunnamed v)
    · simp [hhas] at hmissing

/-- Settles O23: `aluAdd` with a register or a constant as the right operand. -/
theorem addResults : Obligations.AddResults := by
  intro d a b I s hI
  have himm := toNat_immediate hI
  refine ⟨?_, ?_, ?_, ?_, ?_, ?_, ?_, ?_⟩
  · exact computes_registers rfl (aluAdd_eq rfl)
  · exact computes_registers rfl (aluAdd_eq rfl)
  · exact computes_immediate rfl (aluAdd_eq himm)
  · exact computes_immediate rfl (aluAdd_eq himm)
  · exact written_fields16 rfl (lowReg2_and_iff lowReg_iff) rfl
  · exact written_fields32 rfl (iff_of_true rfl trivial) rfl
  · exact written_fields16 rfl (lowReg2_and_iff (unsignedFits_iff_le rfl)) rfl
  · exact written_immediate32 rfl (unsignedFits_iff_le rfl) rfl

/-- Settles O24: `aluSub` with a register or a constant as the right operand. -/
theorem subResults : Obligations.SubResults := by
  intro d a b I s hI
  have himm := toNat_immediate hI
  refine ⟨?_, ?_, ?_, ?_, ?_, ?_, ?_, ?_⟩
  · exact computes_registers rfl (aluSub_eq rfl)
  · exact computes_registers rfl (aluSub_eq rfl)
  · exact computes_immediate rfl (aluSub_eq himm)
  · exact computes_immediate rfl (aluSub_eq himm)
  · exact written_fields16 rfl (lowReg2_and_iff lowReg_iff) rfl
  · exact written_fields32 rfl (iff_of_true rfl trivial) rfl
  · exact written_fields16 rfl (lowReg2_and_iff (unsignedFits_iff_le rfl)) rfl
  · exact written_immediate32 rfl (unsignedFits_iff_le rfl) rfl

/-- Settles O26: the three operations are the bitwise ones of words, and each gives the old carry back. -/
theorem logicResults : Obligations.LogicResults := by
  intro d a b s
  refine ⟨?_, ?_, ?_, ?_, ?_, ?_, ?_, ?_, ?_, ?_, ?_, ?_⟩
  iterate 6 exact computes_registers rfl rfl
  iterate 3
    · exact written_fields16 rfl (lowReg2_and_iff lowReg_iff) rfl
    · exact written_fields32 rfl (iff_of_true rfl trivial) rfl

/-- Settles O28: `aluAsr` by the whole of Rb or by the amount, and the 17 bits it shifts. -/
theorem asrResults : Obligations.AsrResults := by
  intro d a b n s hn
  have himm := toNat_immediate hn
  refine ⟨?_, ?_, ?_, ?_, asr_value_eq_zero (readReg s a) s.carry, ?_, ?_, ?_, ?_⟩
  · exact computes_registers rfl (aluAsr_eq rfl)
  · exact computes_registers rfl (aluAsr_eq rfl)
  · exact computes_immediate rfl (aluAsr_eq himm)
  · exact computes_immediate rfl (aluAsr_eq himm)
  · exact written_fields16 rfl (lowReg2_and_iff lowReg_iff) rfl
  · exact written_fields32 rfl (iff_of_true rfl trivial) rfl
  · exact written_fields16 rfl (lowReg2_and_iff shiftFits_iff) rfl
  · exact written_fields32 rfl shiftFits_iff rfl

/-- Settles O29: `aluLsl` and `aluLsr` by the whole of Rb. -/
theorem logicalShiftResults : Obligations.LogicalShiftResults := by
  intro d a b s
  refine ⟨?_, ?_, ?_, ?_, ?_, ?_, ?_, ?_⟩
  · exact computes_registers rfl (aluLsl_eq rfl)
  · exact computes_registers rfl (aluLsl_eq rfl)
  · exact computes_registers rfl (aluLsr_eq rfl)
  · exact computes_registers rfl (aluLsr_eq rfl)
  iterate 2
    · exact written_fields16 rfl (lowReg2_and_iff lowReg_iff) rfl
    · exact written_fields32 rfl (iff_of_true rfl trivial) rfl

/-- Settles O30: `aluLsl` and `aluLsr` by an amount that 16 bits hold. -/
theorem logicalShiftImmediateResults : Obligations.LogicalShiftImmediateResults := by
  intro d a n s _ hn
  have himm := toNat_immediate (I := n) (by omega)
  refine ⟨?_, ?_, ?_, ?_, ?_, ?_, ?_, ?_⟩
  · exact computes_immediate rfl (aluLsl_eq himm)
  · exact computes_immediate rfl (aluLsl_eq himm)
  · exact computes_immediate rfl (aluLsr_eq himm)
  · exact computes_immediate rfl (aluLsr_eq himm)
  iterate 2
    · exact written_fields16 rfl (lowReg2_and_iff shiftFits_iff) rfl
    · exact written_fields32 rfl shiftFits_iff rfl

/-- Settles O31: MOV and MOVI write one register and advance. -/
theorem moveResults : Obligations.MoveResults := by
  intro d a I s
  refine ⟨computes_move rfl, computes_move rfl, computes_move rfl, computes_move rfl, ?_, ?_, ?_, ?_⟩
  · exact written_fields16 rfl (lowReg_and_iff lowReg_iff) rfl
  · exact written_fields32 (f0 := 0) rfl (iff_of_true rfl trivial) rfl
  · exact written_const16 rfl (lowReg_and_iff (unsignedFits_iff_le rfl)) rfl
  · exact written_const32 rfl (unsignedFits_iff_le rfl) rfl

/-- Settles O34: the convention of R121 is an `advance` by one. -/
theorem trueNopOnlyAdvances : Obligations.TrueNopOnlyAdvances :=
  ⟨fun s => advance_of_pc_cfg_eq 1 (s := s) rfl rfl, rfl, by decide, rfl⟩

/-- Settles O35: an implementation's NOP that is not refused advances from `nopState`, which keeps `pc` and the parameters. -/
theorem otherNopsAdvance : Obligations.OtherNopsAdvance := by
  intro d I s
  obtain ⟨-, hdmem, helse⟩ := nopState_frame s d I
  refine ⟨fun hpolicy hother => ?_, fun hpolicy => ?_, ⟨hdmem, helse⟩, ?_, ?_⟩
  · rw [raisesAtTheTop, exec_nop16_of_other hother]
    exact implementationNop_advances 1 hpolicy
  · exact implementationNop_advances 2 hpolicy
  · exact written_const16 rfl (lowReg_and_iff (unsignedFits_iff_le rfl)) rfl
  · exact written_const32 rfl (unsignedFits_iff_le rfl) rfl

/-- Settles O36: the settings "no effect" and "refuse", and the first rule of the table. -/
theorem nopByParameter : Obligations.NopByParameter := by
  intro d I s
  refine ⟨fun hpolicy hother => ?_, fun hpolicy => ?_, fun hpolicy hother => ?_, fun hpolicy => ?_,
    fun htable => nopPolicy_of_nil htable d I, fun r rs htable => nopPolicy_of_cons htable d I⟩
  · rw [raisesAtTheTop, exec_nop16_of_other hother]
    exact implementationNop_only_advances 1 hpolicy
  · exact implementationNop_only_advances 2 hpolicy
  · rw [exec_nop16_of_other hother]
    exact implementationNop_of_refuse hpolicy
  · exact implementationNop_of_refuse hpolicy

end Sys2Proof.Proofs

/-! PROOFS of the statements on the loads and stores (41_loadstore16.md, 45_loadstore32.md). Every form that is not refused is an
access followed by an advance, of `loads_then_advances` or `stores_then_advances`; the write-back forms first say which access that is. -/

namespace Sys2Proof.Machine

variable {i : Instr} {len n op : Nat} {sz : Size} {d a : Reg} {S : Int} {ea v : Word} {s : State} {line : AsmLine}
  {regs : Vector Word 64}

/-! An access whose bytes exist, and the advance after it -/

theorem andThen_memRead_of_plainData {β : Type} {b : Nat} (h : plainData s b sz) (f : Word → Result β) :
    andThen (memRead s b sz) f = f (dataAt s b sz) := by
  rw [memRead_eq_next.mpr ⟨h, rfl⟩, andThen_next]

theorem andThen_memWrite_of_plainData {β : Type} {b : Nat} (h : plainData s b sz) (f : State → Result β) :
    andThen (memWrite s b sz v) f = f (storeData s b v sz) := by
  rw [memWrite_eq_next.mpr ⟨h, rfl⟩, andThen_next]

/-- A load advances from what it makes of the value read, which leaves `pc` and the parameters. -/
theorem loads_then_advances {f : Word → State}
    (hexec : exec i s = andThen (memRead s ea.toNat sz) fun w => advance len (f w))
    (hpc : ∀ w, (f w).pc = s.pc) (hcfg : ∀ w, (f w).cfg = s.cfg) (hplain : plainData s ea.toNat sz) :
    (roomFor s len → exec i s = .next { f (dataAt s ea.toNat sz) with pc := s.pc + len }) ∧ raisesAtTheTop i len s := by
  rw [raisesAtTheTop, hexec, andThen_memRead_of_plainData hplain]
  exact advance_of_pc_cfg_eq len (hpc _) (hcfg _)

/-- A store advances from what it makes of the state stored to, which differs from that state in the registers and the count of
draws at most. -/
theorem stores_then_advances {f : State → State}
    (hexec : exec i s = andThen (memWrite s ea.toNat sz v) fun t => advance len (f t))
    (hf : f (storeData s ea.toNat v sz) = { storeData s ea.toNat v sz with regs := regs, draws := n })
    (hplain : plainData s ea.toNat sz) :
    (roomFor s len → ∃ t, exec i s = .next t ∧ storedAt s t ea.toNat v sz ∧ t.regs = regs ∧ t.pc = s.pc + len ∧
      sameElsewhere s t ∧ t.draws = n) ∧ raisesAtTheTop i len s := by
  have hadvances := advance_of_pc_cfg_eq (t := f (storeData s ea.toNat v sz)) (s := s) len (by simp [hf]) (by simp [hf])
  rw [raisesAtTheTop, hexec, andThen_memWrite_of_plainData hplain]
  refine ⟨fun hroom => ⟨_, hadvances.1 hroom, ?_, ?_, rfl, ?_, ?_⟩, hadvances.2⟩
  · intro b
    have hdmem : (f (storeData s ea.toNat v sz)).dmem = (storeData s ea.toNat v sz).dmem := by rw [hf]
    exact (byteAt_congr hdmem b).trans (byteAt_storeData s ea.toNat b v sz)
  · simp [hf]
  · simp [hf, sameElsewhere]
  · simp [hf]

/-- The write-back after a store: the bytes stored and the registers changed do not meet. -/
theorem writeReg_storeData (s : State) (b : Nat) (v : Word) (sz : Size) (d : Reg) (w : Word) :
    writeReg (storeData s b v sz) d w = { storeData s b v sz with regs := (writeReg s d w).regs, draws := s.draws } := by
  rw [storeData_eq_with_dmem]
  rfl

/-! The forms with write-back, by whether data register and base are one and, where they are, by `SAME_REG_WRITEBACK` -/

theorem loadWriteBack_of_ne (h : d ≠ a) : loadWriteBack len sz ea d a s =
    andThen (memRead s ea.toNat sz) fun w => advance len (writeReg (writeReg s d w) a ea) := if_neg h

theorem loadWriteBack_of_free (h : s.cfg.sameReg = .free) : loadWriteBack len sz ea a a s =
    andThen (memRead s ea.toNat sz) fun _ => advance len (drawn (writeReg s a (Config.sameRegLoad s.draws))) := by
  simp only [loadWriteBack, h, if_true]

theorem loadWriteBack_of_refuse (h : s.cfg.sameReg = .refuse) :
    loadWriteBack len sz ea a a s = .refused (.sameRegWriteback a) := by
  simp only [loadWriteBack, h, if_true]

theorem storePre_of_ne (h : d ≠ a) : storePre len sz d a S s =
    andThen (memWrite s (addressMinus s d S).toNat sz (readReg s a)) fun t =>
      advance len (writeReg t d (addressMinus s d S)) := if_neg h

theorem storePre_of_free (h : s.cfg.sameReg = .free) : storePre len sz a a S s =
    andThen (memWrite s (addressMinus s a S).toNat sz
      (if Config.sameRegStoresOld s.draws then readReg s a else addressMinus s a S)) fun t =>
        advance len (drawn (writeReg t a (addressMinus s a S))) := by
  simp only [storePre, h, if_true]

theorem storePre_of_refuse (h : s.cfg.sameReg = .refuse) : storePre len sz a a S s = .refused (.sameRegWriteback a) := by
  simp only [storePre, h, if_true]

/-! What each shape of instruction does when the bytes of its access exist -/

theorem loads_indexed (hexec : exec i s = loadIndexed len sz d a S s) : loads i len sz (addressPlus s a S) d s :=
  loads_then_advances hexec (fun _ => rfl) fun _ => rfl

theorem loadsAndUpdates_of_ne (hda : d ≠ a) (hexec : exec i s = loadWriteBack len sz ea d a s) :
    loadsAndUpdates i len sz ea d a s :=
  loads_then_advances (hexec.trans (loadWriteBack_of_ne hda)) (fun _ => rfl) fun _ => rfl

theorem loads_into_base (hfree : s.cfg.sameReg = .free) (hexec : exec i s = loadWriteBack len sz ea a a s)
    (hplain : plainData s ea.toNat sz) :
    (roomFor s len → ∃ t, exec i s = .next t ∧ t.pc = s.pc + len ∧ t.dmem = s.dmem ∧ sameElsewhere s t ∧
      ∀ r, r ≠ a → readReg t r = readReg s r) ∧ raisesAtTheTop i len s := by
  obtain ⟨hnext, htop⟩ :=
    loads_then_advances (hexec.trans (loadWriteBack_of_free hfree)) (fun _ => rfl) (fun _ => rfl) hplain
  exact ⟨fun hroom => ⟨_, hnext hroom, rfl, rfl, ⟨rfl, rfl, rfl, rfl⟩, fun _ hr => readReg_writeReg_of_ne s _ hr⟩, htop⟩

theorem stores_indexed (hexec : exec i s = storeIndexed len sz d a S s) :
    stores i len sz (addressPlus s d S) (readReg s a) s.regs s :=
  stores_then_advances hexec (by rw [storeData_eq_with_dmem])

theorem stores_post (hexec : exec i s = storePost len sz d a S s) :
    stores i len sz (addressPlus s d S) (readReg s a) (writeReg s d (addressPlus s d S)).regs s :=
  stores_then_advances hexec (writeReg_storeData s _ _ sz d _)

theorem stores_pre_of_ne (hda : d ≠ a) (hexec : exec i s = storePre len sz d a S s) :
    stores i len sz (addressMinus s d S) (readReg s a) (writeReg s d (addressMinus s d S)).regs s :=
  stores_then_advances (hexec.trans (storePre_of_ne hda)) (writeReg_storeData s _ _ sz d _)

/-- The draw picks one of the two registers R140(g) leaves open. -/
theorem stores_base (hfree : s.cfg.sameReg = .free) (hexec : exec i s = storePre len sz a a S s)
    (hplain : plainData s (addressMinus s a S).toNat sz) :
    (roomFor s len → ∃ t v, exec i s = .next t ∧ (v = readReg s a ∨ v = addressMinus s a S) ∧
      storedAt s t (addressMinus s a S).toNat v sz ∧ t.regs = (writeReg s a (addressMinus s a S)).regs ∧
      t.pc = s.pc + len ∧ sameElsewhere s t) ∧ raisesAtTheTop i len s := by
  obtain ⟨hnext, htop⟩ := stores_then_advances (n := s.draws + 1) (hexec.trans (storePre_of_free hfree))
    (by rw [writeReg_storeData]; rfl) hplain
  refine ⟨fun hroom => ?_, htop⟩
  obtain ⟨t, ht, hstored, hregs, hpc, helse, -⟩ := hnext hroom
  exact ⟨t, _, ht, ite_eq_or_eq .., hstored, hregs, hpc, helse⟩

/-! What a load or store is written as -/

theorem signedFits_iff_le {k : Nat} {lo hi : Int} (hlo : -(2 ^ (k - 1)) = lo) (hhi : (2 : Int) ^ (k - 1) = hi + 1) :
    signedFits k S = true ↔ lo ≤ S ∧ S ≤ hi := by
  rw [signedFits, decide_eq_true_iff, hlo, hhi, Int.lt_add_one_iff]

theorem written_offset16 (hasm : asm i = line) (hwf : i.wf = (lowReg d && lowReg a && signedFits 3 S))
    (henc : encode i = format1to4 op d a (signedField 3 S)) :
    written i line (d.val < 8 ∧ a.val < 8 ∧ -4 ≤ S ∧ S ≤ 3) [word3 op d.val a.val (twos 3 S)] :=
  have hfits : signedFits 3 S = true ↔ -4 ≤ S ∧ S ≤ 3 := signedFits_iff_le rfl rfl
  written_fields16 hasm (hwf ▸ lowReg2_and_iff hfits) henc

/-- Of the ten bits of the offset, the second word holds the high seven (format 13). -/
theorem written_offset32 (hasm : asm i = line) (hwf : i.wf = signedFits 10 S)
    (henc : encode i = format8to13 op (signedField 10 S / 64) d a (signedField 10 S % 64)) :
    written i line (-512 ≤ S ∧ S ≤ 511)
      [word3 (op + 64) (d.val % 8) (a.val % 8) (twos 10 S % 8),
        word3 (twos 10 S / 64) (d.val / 8) (a.val / 8) (twos 10 S / 8 % 8)] :=
  have hfits : signedFits 10 S = true ↔ -512 ≤ S ∧ S ≤ 511 := signedFits_iff_le rfl rfl
  written_immediate32 hasm (hwf ▸ hfits) henc

end Sys2Proof.Machine

/-! The statements -/

namespace Sys2Proof.Proofs

open Sys2Proof Sys2Proof.Machine

/-- Settles O43: each of the four is `loadIndexed`, which makes no difference between `d = a` and `d ≠ a`. -/
theorem indexedLoads : Obligations.IndexedLoads := by
  intro d a S s
  refine ⟨loads_indexed rfl, loads_indexed rfl, loads_indexed rfl, loads_indexed rfl, ?_, ?_, ?_, ?_⟩
  iterate 2
    · exact written_offset16 rfl rfl rfl
    · exact written_offset32 rfl rfl rfl

/-- Settles O44: each of the four is `loadWriteBack` at base plus offset. -/
theorem postIncrementLoads : Obligations.PostIncrementLoads := by
  intro d a S s
  refine ⟨fun hda => ⟨?_, ?_, ?_, ?_⟩, ?_, ?_, ?_, ?_⟩
  iterate 4 exact loadsAndUpdates_of_ne hda rfl
  iterate 2
    · exact written_offset16 rfl rfl rfl
    · exact written_offset32 rfl rfl rfl

/-- Settles O45: each of the four is `loadWriteBack` at base minus offset. -/
theorem preDecrementLoads : Obligations.PreDecrementLoads := by
  intro d a S s
  refine ⟨fun hda => ⟨?_, ?_, ?_, ?_⟩, ?_, ?_, ?_, ?_⟩
  iterate 4 exact loadsAndUpdates_of_ne hda rfl
  iterate 2
    · exact written_offset16 rfl rfl rfl
    · exact written_offset32 rfl rfl rfl

/-- Settles O46: with the setting "free" the load makes its access, and only the value of the register is the draw's. -/
theorem sameRegisterLoads : Obligations.SameRegisterLoads := by
  intro a S s hfree
  refine ⟨?_, ?_, ?_, ?_, ?_, ?_, ?_, ?_⟩
  iterate 8 exact loads_into_base hfree rfl

/-- Settles O47: each of the four is `storeIndexed`, which writes no register. -/
theorem indexedStores : Obligations.IndexedStores := by
  intro d a S s
  refine ⟨stores_indexed rfl, stores_indexed rfl, stores_indexed rfl, stores_indexed rfl, ?_, ?_, ?_, ?_⟩
  iterate 2
    · exact written_offset16 rfl rfl rfl
    · exact written_offset32 rfl rfl rfl

/-- Settles O48: each of the four is `storePost`, which reads its data before it writes the base, be it the same register or not. -/
theorem postIncrementStores : Obligations.PostIncrementStores := by
  intro d a S s
  refine ⟨stores_post rfl, stores_post rfl, stores_post rfl, stores_post rfl, ?_, ?_, ?_, ?_⟩
  iterate 2
    · exact written_offset16 rfl rfl rfl
    · exact written_offset32 rfl rfl rfl

/-- Settles O49: each of the four is `storePre`, which for two registers stores the data register as it is. -/
theorem preDecrementStores : Obligations.PreDecrementStores := by
  intro d a S s
  refine ⟨fun hda => ⟨?_, ?_, ?_, ?_⟩, ?_, ?_, ?_, ?_⟩
  iterate 4 exact stores_pre_of_ne hda rfl
  iterate 2
    · exact written_offset16 rfl rfl rfl
    · exact written_offset32 rfl rfl rfl

/-- Settles O50: with the setting "free" the store makes its access, with the value the draw picks. -/
theorem sameRegisterStores : Obligations.SameRegisterStores := by
  intro a S s hfree
  exact ⟨stores_base hfree rfl, stores_base hfree rfl, stores_base hfree rfl, stores_base hfree rfl⟩

/-- Settles O51: the setting is looked at before the access, in the eight loads and in the four stores. -/
theorem sameRegisterRefused : Obligations.SameRegisterRefused := by
  intro a S s hrefuse
  refine ⟨?_, ?_, ?_, ?_, ?_, ?_, ?_, ?_, ?_, ?_, ?_, ?_⟩
  iterate 8 exact loadWriteBack_of_refuse hrefuse
  iterate 4 exact storePre_of_refuse hrefuse

end Sys2Proof.Proofs

/-! PROOFS of the statements on the branches and jumps (42_branch16.md, and the same instructions in 46_branch32.md). Every one of them
is a `goto`, a `branchIf` or a `branchLink`, and each of these three is said once to be what `branches` or `links` asks. -/

namespace Sys2Proof.Machine

variable {i : Instr} {len op : Nat} {d a b : Reg} {S target : Int} {c : Cond} {x y : Word} {holds : Prop} {s : State}
  {line : AsmLine}

/-! The comparisons -/

theorem holds_eq_iff : Cond.eq.holds x y = true ↔ x = y := decide_eq_true_iff
theorem holds_ne_iff : Cond.ne.holds x y = true ↔ x ≠ y := decide_eq_true_iff
theorem holds_lts_iff : Cond.lts.holds x y = true ↔ x.toInt < y.toInt := decide_eq_true_iff
theorem holds_les_iff : Cond.les.holds x y = true ↔ x.toInt ≤ y.toInt := decide_eq_true_iff
theorem holds_ltu_iff : Cond.ltu.holds x y = true ↔ x.toNat < y.toNat := decide_eq_true_iff
theorem holds_leu_iff : Cond.leu.holds x y = true ↔ x.toNat ≤ y.toNat := decide_eq_true_iff

/-! What each shape of branch or jump does -/

theorem branchIf_of_holds (h : c.holds (readReg s a) (readReg s b) = true) : branchIf len c target a b s = goto target s := if_pos h

theorem branchIf_of_not_holds (h : ¬ c.holds (readReg s a) (readReg s b) = true) :
    branchIf len c target a b s = advance len s := if_neg h

theorem branches_goto (hexec : exec i s = goto target s) : branches i len True target s := by
  rw [branches, hexec]
  exact ⟨fun _ => goto_of_valid, fun _ => goto_of_not_valid, fun hfalse => (hfalse trivial).elim,
    fun hfalse => (hfalse trivial).elim⟩

theorem branches_branchIf (hexec : exec i s = branchIf len c target a b s)
    (hc : c.holds (readReg s a) (readReg s b) = true ↔ holds) : branches i len holds target s := by
  rw [branches, hexec, ← hc]
  refine ⟨fun htaken hvalid => ?_, fun htaken hinvalid => ?_, fun huntaken hroom => ?_, fun huntaken hnoroom => ?_⟩
  · rw [branchIf_of_holds htaken, goto_of_valid hvalid]
  · rw [branchIf_of_holds htaken, goto_of_not_valid hinvalid]
  · rw [branchIf_of_not_holds huntaken, advance_of_room hroom]
  · rw [branchIf_of_not_holds huntaken, advance_of_no_room hnoroom]

theorem links_branchLink (hexec : exec i s = branchLink len target b s) : links i len b target s := by
  rw [links, hexec, branchLink]
  refine ⟨fun hvalid => ?_, fun hinvalid => ?_⟩
  · rw [goto_of_valid hvalid, andThen_next]
    rfl
  · rw [goto_of_not_valid hinvalid, andThen_fault]

/-- A register has 16 bits, so a `pc` of at least as many holds its value. -/
theorem validPc_readReg (h : 16 ≤ s.cfg.pcw) (d : Reg) : validPc s (readReg s d).toNat := by
  have hlt : (readReg s d).toNat < 2 ^ s.cfg.pcw := (readReg s d).isLt.trans_le (Nat.pow_le_pow_right (by decide) h)
  exact ⟨Int.natCast_nonneg _, by exact_mod_cast hlt⟩

/-! What a branch or jump is written as, by the format of its words -/

/-- Of the ten bits of the offset, the second word holds the high seven (format 12). -/
theorem format12_eq_words (op n a b : Nat) : format12 op n a b =
    [word3 (op + 64) (n % 8) (a % 8) (b % 8), word3 (n / 64) (n / 8 % 8) (a / 8) (b / 8)].map (BitVec.ofNat 16) := by
  have hhigh : n / 8 * 64 = n / 64 * 512 + n / 8 % 8 * 64 := by omega
  rw [format12, twoWords_eq_words, hhigh]
  simp only [word3, Nat.add_assoc]

theorem format16_eq_words (op n b : Nat) : format16 op n b =
    [(op + 64) * 512 + n % 64 * 8 + b % 8, n / 64 * 8 + b / 8].map (BitVec.ofNat 16) := by
  rw [format16, twoWords_eq_words, Nat.add_assoc]

theorem format17_eq_words (op n : Nat) : format17 op n = [(op + 64) * 512 + n % 512, n / 512].map (BitVec.ofNat 16) :=
  twoWords_eq_words op (n % 512) (n / 512)

theorem written_branch16 (hasm : asm i = line) (hwf : i.wf = (lowReg a && lowReg b && signedFits 3 S))
    (henc : encode i = format1to4 op (signedField 3 S) a b) :
    written i line (a.val < 8 ∧ b.val < 8 ∧ -4 ≤ S ∧ S ≤ 3) [word3 op (twos 3 S) a.val b.val] :=
  have hfits : signedFits 3 S = true ↔ -4 ≤ S ∧ S ≤ 3 := signedFits_iff_le rfl rfl
  written_fields16 hasm (hwf ▸ lowReg2_and_iff hfits) henc

theorem written_branch32 (hasm : asm i = line) (hwf : i.wf = signedFits 10 S) (henc : encode i = format12 op (signedField 10 S) a b) :
    written i line (-512 ≤ S ∧ S ≤ 511)
      [word3 (op + 64) (twos 10 S % 8) (a.val % 8) (b.val % 8),
        word3 (twos 10 S / 64) (twos 10 S / 8 % 8) (a.val / 8) (b.val / 8)] :=
  have hfits : signedFits 10 S = true ↔ -512 ≤ S ∧ S ≤ 511 := signedFits_iff_le rfl rfl
  ⟨hasm, hwf ▸ hfits, henc.trans (format12_eq_words op (signedField 10 S) a b)⟩

end Sys2Proof.Machine

/-! The statements -/

namespace Sys2Proof.Proofs

open Sys2Proof Sys2Proof.Machine

/-- Settles O55: each of the twelve is `branchIf` to `pc + S` on its comparison. -/
theorem conditionalBranches : Obligations.ConditionalBranches := by
  intro S a b s
  refine ⟨?_, ?_, ?_, ?_, ?_, ?_, ?_, ?_, ?_, ?_, ?_, ?_, ?_, ?_, ?_, ?_, ?_, ?_, ?_, ?_, ?_, ?_, ?_, ?_⟩
  iterate 2
    · exact branches_branchIf rfl holds_eq_iff
    · exact branches_branchIf rfl holds_ne_iff
    · exact branches_branchIf rfl holds_lts_iff
    · exact branches_branchIf rfl holds_les_iff
    · exact branches_branchIf rfl holds_ltu_iff
    · exact branches_branchIf rfl holds_leu_iff
  iterate 6
    · exact written_branch16 rfl rfl rfl
    · exact written_branch32 rfl rfl rfl

/-- Settles O57: each of the twelve is `branchIf` to the value of Rd on its comparison, whichever registers are one. -/
theorem conditionalJumps : Obligations.ConditionalJumps := by
  intro d a b s
  refine ⟨?_, ?_, ?_, ?_, ?_, ?_, ?_, ?_, ?_, ?_, ?_, ?_, ?_, ?_, ?_, ?_, ?_, ?_, ?_, ?_, ?_, ?_, ?_, ?_⟩
  iterate 2
    · exact branches_branchIf rfl holds_eq_iff
    · exact branches_branchIf rfl holds_ne_iff
    · exact branches_branchIf rfl holds_lts_iff
    · exact branches_branchIf rfl holds_les_iff
    · exact branches_branchIf rfl holds_ltu_iff
    · exact branches_branchIf rfl holds_leu_iff
  iterate 6
    · exact written_fields16 rfl (lowReg2_and_iff lowReg_iff) rfl
    · exact written_fields32 rfl (iff_of_true rfl trivial) rfl

/-- Settles O53: BRA is `goto` and nothing else, in both lengths; formats 7 and 17 hold 9 and 22 bits of the offset. -/
theorem unconditionalBranches : Obligations.UnconditionalBranches := by
  intro S s
  refine ⟨branches_goto rfl, branches_goto rfl, ⟨rfl, ?_, rfl⟩, ⟨rfl, ?_, ?_⟩⟩
  · exact signedFits_iff_le rfl rfl
  · exact signedFits_iff_le rfl rfl
  · exact format17_eq_words 32 (signedField 22 S)

/-- Settles O54: BAL is `branchLink`, in both lengths; formats 6 and 16 hold 6 and 16 bits of the offset. -/
theorem branchAndLinkResults : Obligations.BranchAndLinkResults := by
  intro S b s
  refine ⟨links_branchLink rfl, links_branchLink rfl, ⟨rfl, ?_, rfl⟩, ⟨rfl, ?_, ?_⟩⟩
  · exact lowReg_and_iff (signedFits_iff_le rfl rfl)
  · exact signedFits_iff_le rfl rfl
  · exact format16_eq_words 33 (signedField 16 S) b

/-- Settles O56: JMP is `goto` and JAL is `branchLink`, which works out its target before it writes the link. -/
theorem registerJumps : Obligations.RegisterJumps := by
  intro d b s
  refine ⟨branches_goto rfl, branches_goto rfl, links_branchLink rfl, links_branchLink rfl, fun hpcw => validPc_readReg hpcw d,
    ?_, ?_, ?_, ?_⟩
  · exact written_fields16 (f1 := 0) (f0 := 0) rfl lowReg_iff rfl
  · exact written_fields32 (f1 := 0) (f0 := 0) rfl (iff_of_true rfl trivial) rfl
  · exact written_fields16 (f1 := 0) rfl (lowReg_and_iff lowReg_iff) rfl
  · exact written_fields32 (f1 := 0) rfl (iff_of_true rfl trivial) rfl

end Sys2Proof.Proofs

/-! PROOF of the statement on RTE (43_misc16.md). RTE is `returnFromException`, which `RTE_DEFINED` admits to be a `goto` to the value of
Rd; a register holds 16 bits, so that the target is in range whenever PCW is at least 16. -/

namespace Sys2Proof.Machine

variable {d : Reg} {s : State}

theorem returnFromException_of_defined (h : s.cfg.rteDefined = true) : returnFromException d s = goto (readReg s d).toNat s := if_pos h

theorem returnFromException_of_undefined (h : s.cfg.rteDefined = false) : returnFromException d s = .refused .rteUndefined :=
  if_neg (Bool.eq_false_iff.mp h)

theorem exec_rte (d : Reg) (s : State) : exec (.rte d) s = returnFromException d s := rfl

end Sys2Proof.Machine

/-! The statement -/

namespace Sys2Proof.Proofs

open Sys2Proof Sys2Proof.Machine

/-- Settles O37, by the two settings of `RTE_DEFINED`; RTE is written in format 1, as JMP is. -/
theorem rteResult : Obligations.RteResult := by
  intro d s
  refine ⟨?defined, ?undefined, ?written⟩
  case defined =>
    intro hdef hpcw
    rw [exec_rte, returnFromException_of_defined hdef, goto_of_valid (validPc_readReg hpcw d), Int.toNat_natCast]
  case undefined =>
    intro hundef
    rw [exec_rte, returnFromException_of_undefined hundef]
  case written => exact written_fields16 (f1 := 0) (f0 := 0) rfl lowReg_iff rfl

end Sys2Proof.Proofs

/-! PROOFS of the statements on ADDC, SUBC, ANDI, ORI and XORI, which have 32-bit forms only (44_alu32.md). The shapes and encodings are
those of the other ALU instructions; what is new is the old carry as an operand, and which bits a constant of nine bits can reach. -/

namespace Sys2Proof.Machine

variable {c : Bool} {x y : Word} {k : Nat}

/-! The old carry as an operand -/

theorem aluAddc_eq : aluAddc c x y =
    (BitVec.ofNat 16 (x.toNat + y.toNat + c.toNat), decide (x.toNat + y.toNat + c.toNat ≥ 65536)) := by
  rw [aluAddc, ← wrap_natCast, Nat.cast_add, Nat.cast_add]

theorem aluSubc_eq : aluSubc c x y =
    (BitVec.ofInt 16 (x.toNat - y.toNat - c.toNat), decide (y.toNat + c.toNat > x.toNat)) := by
  rw [aluSubc, wrap]

/-! A right operand of `k` bits: AND clears the bits from `k` up, OR and XOR let them pass -/

theorem toNat_and_lt_two_pow (hy : y.toNat < 2 ^ k) : (x &&& y).toNat < 2 ^ k := by
  rw [BitVec.toNat_and]
  exact Nat.and_lt_two_pow x.toNat hy

theorem toNat_or_div_two_pow (hy : y.toNat < 2 ^ k) : (x ||| y).toNat / 2 ^ k = x.toNat / 2 ^ k := by
  rw [BitVec.toNat_or, Nat.or_div_two_pow, Nat.div_eq_of_lt hy, Nat.or_zero]

theorem toNat_xor_div_two_pow (hy : y.toNat < 2 ^ k) : (x ^^^ y).toNat / 2 ^ k = x.toNat / 2 ^ k := by
  rw [BitVec.toNat_xor, Nat.xor_div_two_pow, Nat.div_eq_of_lt hy, Nat.xor_zero]

end Sys2Proof.Machine

/-! The statements -/

namespace Sys2Proof.Proofs

open Sys2Proof Sys2Proof.Machine

/-- Settles O25: `aluAddc` and `aluSubc` of the two registers and the old carry. -/
theorem addcSubcResults : Obligations.AddcSubcResults := by
  intro d a b s
  refine ⟨computes_registers rfl aluAddc_eq, computes_registers rfl aluSubc_eq, ?_, ?_⟩
  iterate 2 exact written_fields32 rfl (iff_of_true rfl trivial) rfl

/-- Settles O27: the bitwise operations of words, on a constant that nine bits hold. -/
theorem logicImmediateResults : Obligations.LogicImmediateResults := by
  intro d a I s hI
  have hnine : (immediate I).toNat < 2 ^ 9 := by
    rw [toNat_immediate (by omega)]
    omega
  refine ⟨?_, ?_, ?_, toNat_and_lt_two_pow hnine, toNat_or_div_two_pow hnine, toNat_xor_div_two_pow hnine, ?_, ?_, ?_⟩
  iterate 3 exact computes_immediate rfl rfl
  iterate 3 exact written_immediate32 rfl (unsignedFits_iff_le rfl) rfl

end Sys2Proof.Proofs

/-! PROOFS of the statements on the long jumps (46_branch32.md). Their target is the value of a pair of registers, named `pairTarget`
in the model; on it they are the `goto`, `branchLink` and `branchIf` of the other jumps. -/

namespace Sys2Proof.Machine

theorem pairTarget_eq_natCast (s : State) (d : Reg) :
    pairTarget s d = ((readReg s (d + 1)).toNat * 65536 + (readReg s d).toNat : Nat) := by
  rw [pairTarget, Nat.cast_add, Nat.cast_mul, Nat.cast_ofNat]

theorem evenReg_iff {d : Reg} : evenReg d = true ↔ d.val % 2 = 0 := decide_eq_true_iff

/-- The last register is odd, so that an even one has a successor and the pair does not wrap round to R0. -/
theorem val_add_one_of_even {d : Reg} (h : d.val % 2 = 0) : (d + 1 : Reg).val = d.val + 1 := by
  have hlt : d < Fin.last 63 := Fin.lt_def.mpr (by simp only [Fin.val_last]; omega)
  exact Fin.val_add_one_of_lt hlt

end Sys2Proof.Machine

/-! The statements -/

namespace Sys2Proof.Proofs

open Sys2Proof Sys2Proof.Machine

/-- Settles O59: each of the six is `branchIf` to the value of the pair on its comparison; the even d is a matter of the encoding. -/
theorem conditionalLongJumps : Obligations.ConditionalLongJumps := by
  intro d a b s
  rw [← pairTarget_eq_natCast]
  refine ⟨fun _ => ⟨?_, ?_, ?_, ?_, ?_, ?_⟩, ?_, ?_, ?_, ?_, ?_, ?_⟩
  · exact branches_branchIf rfl holds_eq_iff
  · exact branches_branchIf rfl holds_ne_iff
  · exact branches_branchIf rfl holds_lts_iff
  · exact branches_branchIf rfl holds_les_iff
  · exact branches_branchIf rfl holds_ltu_iff
  · exact branches_branchIf rfl holds_leu_iff
  iterate 6 exact written_fields32 rfl evenReg_iff rfl

/-- Settles O58: JMPL is `goto` and JALL is `branchLink`, which works out the value of the pair before it writes the link. -/
theorem longJumps : Obligations.LongJumps := by
  intro d b s
  rw [← pairTarget_eq_natCast]
  refine ⟨fun heven => ⟨branches_goto rfl, links_branchLink rfl, val_add_one_of_even heven⟩, ?_, ?_⟩
  · exact written_fields32 (f1 := 0) (f0 := 0) rfl evenReg_iff rfl
  · exact written_fields32 (f1 := 0) rfl evenReg_iff rfl

end Sys2Proof.Proofs

/-! PROOFS of the statements on exceptions and the halt (60_exceptions.md): what a step that cannot fetch or decode raises, what a load
or store without its bytes raises, and which instruction halts. The faults of a step are those of `fetch` and `decodeFetched`, said once
by case; those of a load or store are the faults of its `memRead` or `memWrite`, which comes before anything it changes. -/

namespace Sys2Proof.Machine

variable {i : Instr} {w w0 w1 : Word} {ws : List Word} {n len : Nat} {sz : Size} {d a : Reg} {S : Int} {ea v : Word} {s t : State}

/-! Fetch and decode -/

theorem not_fetchable_iff : ¬ fetchable s n ↔ 2 ^ s.cfg.pcw ≤ n ∨ imemExists s n = false := by
  rw [fetchable, not_and_or, Nat.not_lt, Bool.not_eq_true]

theorem fetch_of_codeAt_short (h : codeAt s s.pc [w]) (hs : isLong w = false) : fetch s = .next [w] := by
  obtain ⟨hfetch, rfl, -⟩ := h
  simp [fetch, ifetch_of_fetchable hfetch, hs]

theorem fetch_of_codeAt_long (h : codeAt s s.pc [w0, w1]) (hl : isLong w0 = true) : fetch s = .next [w0, w1] := by
  obtain ⟨hfirst, rfl, hsecond, rfl, -⟩ := h
  simp [fetch, ifetch_of_fetchable hfirst, ifetch_of_fetchable hsecond, hl]

theorem fetch_of_first_missing (h : ¬ fetchable s s.pc) : fetch s = .fault (.busError s.pc) := by
  rw [fetch, ifetch_of_not_fetchable h, andThen_fault]

theorem fetch_of_second_missing (h : codeAt s s.pc [w0]) (hl : isLong w0 = true) (h' : ¬ fetchable s (s.pc + 1)) :
    fetch s = .fault (.busError (s.pc + 1 : Nat)) := by
  obtain ⟨hfirst, rfl, -⟩ := h
  simp only [fetch, ifetch_of_fetchable hfirst, ifetch_of_not_fetchable h', hl, if_true, andThen_next, andThen_fault]

theorem decodeFetched_of_rejects (h : ∃ e, decode ws = .error e) : decodeFetched ws = .fault (.illegalInstruction ws) := by
  obtain ⟨e, he⟩ := h
  simp only [decodeFetched, he, raise_eq]

/-- A running processor that cannot fetch ends its step in the fault of the fetch. -/
theorem step_of_fetch_fault {f : Fault} (hs : s.status = .running) (h : fetch s = .fault f) : step s = .fault f := by
  simp [step, hs, h]

/-- A running processor whose words match no row raises with those words (R99, R302). -/
theorem step_of_rejects (hs : s.status = .running) (hf : fetch s = .next ws) (h : ∃ e, decode ws = .error e) :
    step s = .fault (.illegalInstruction ws) := by
  simp [step, hs, hf, decodeFetched_of_rejects h]

/-! Data accesses whose bytes do not all exist -/

/-- An instruction that ends in every fault of the existence checks of its access raises the bus error of the missing byte. -/
theorem missesData_of_checks (h : ∀ f, checkBytes s ea.toNat sz.bytes = .fault f → exec i s = .fault f) : missesData i sz ea s := by
  refine ⟨fun hmissing => h _ (checkBytes_of_missing hmissing sz), ?_⟩
  rintro rfl hplain hmissing
  exact h _ (checkBytes_of_missing_second hplain hmissing)

theorem missesData_of_memRead {f : Word → Result State} (hexec : exec i s = andThen (memRead s ea.toNat sz) f) :
    missesData i sz ea s :=
  missesData_of_checks fun g hg => by rw [hexec, memRead_of_fault hg, andThen_fault]

theorem missesData_of_memWrite {f : State → Result State} (hexec : exec i s = andThen (memWrite s ea.toNat sz v) f) :
    missesData i sz ea s :=
  missesData_of_checks fun g hg => by rw [hexec, memWrite_of_fault hg, andThen_fault]

/-- With two registers, or with the setting "free", the write-back load makes its access (R140(g), entry 15). -/
theorem missesData_loadWriteBack (hreg : d ≠ a ∨ s.cfg.sameReg = .free) (hexec : exec i s = loadWriteBack len sz ea d a s) :
    missesData i sz ea s := by
  by_cases hda : d = a
  · subst hda
    have hfree : s.cfg.sameReg = .free := hreg.resolve_left fun hne => hne rfl
    exact missesData_of_memRead (hexec.trans (loadWriteBack_of_free hfree))
  · exact missesData_of_memRead (hexec.trans (loadWriteBack_of_ne hda))

/-- With two registers, or with the setting "free", the pre-decrement store makes its access, whichever value it would store. -/
theorem missesData_storePre (hreg : d ≠ a ∨ s.cfg.sameReg = .free) (hexec : exec i s = storePre len sz d a S s) :
    missesData i sz (addressMinus s d S) s := by
  by_cases hda : d = a
  · subst hda
    have hfree : s.cfg.sameReg = .free := hreg.resolve_left fun hne => hne rfl
    exact missesData_of_memWrite (hexec.trans (storePre_of_free hfree))
  · exact missesData_of_memWrite (hexec.trans (storePre_of_ne hda))

/-! The break -/

/-- `NOP R0,0` is the first of the two conventions of R121, and `execNop16` tests for it first. -/
theorem exec_break (s : State) : exec (.nop16 0 0) s = .next (halt s) := rfl

/-- The status is what it was after every instruction but the break. -/
theorem exec_status (h : exec i s = .next t) : (i = .nop16 0 0 ∧ t.status = .halted) ∨ t.status = s.status := by
  rcases exec_eq_next h with ⟨hi, rfl⟩ | ho
  · exact .inl ⟨hi, halt_status s⟩
  · exact .inr ho.status

/-- Words decode to an instruction with none left over exactly when they are its encoding and it is well formed. -/
theorem decode_eq_ok_nil_iff : decode ws = .ok (i, []) ↔ i.wf = true ∧ ws = encode i := by
  constructor
  · intro h
    simpa using encode_of_decode h
  · rintro ⟨hwf, rfl⟩
    simpa using decode_encode hwf []

end Sys2Proof.Machine

/-! The statements -/

namespace Sys2Proof.Proofs

open Sys2Proof Sys2Proof.Machine

/-- Settles O17: the break and an unchanged status are all that `exec` can do to the status. -/
theorem onlyBreakHalts : Obligations.OnlyBreakHalts := by
  intro i s t h hchanged
  exact (exec_status h).resolve_right hchanged

/-- Settles O52: each of the 24 makes one access before anything else, the six shapes of each length and size in the order of the
statement. -/
theorem dataBusErrors : Obligations.DataBusErrors := by
  intro d a S s
  refine ⟨?_, ?_, ?_, ?_, ?_, ?_, ?_, ?_, ?_, ?_, ?_, ?_, ?_, ?_, ?_, ?_, ?_, ?_, ?_, ?_, ?_, ?_, ?_, ?_⟩
  iterate 4
    · exact missesData_of_memRead rfl
    · exact fun hreg => missesData_loadWriteBack hreg rfl
    · exact fun hreg => missesData_loadWriteBack hreg rfl
    · exact missesData_of_memWrite rfl
    · exact missesData_of_memWrite rfl
    · exact fun hreg => missesData_storePre hreg rfl

/-- Settles O8: what is fetched is one word or two by bit 15 of the first, and the decode of either raises. -/
theorem illegalInstructionRaised : Obligations.IllegalInstructionRaised := by
  intro s w0 w1 hs
  exact ⟨fun hshort hc => step_of_rejects hs (fetch_of_codeAt_short hc hshort),
    fun hlong hc => step_of_rejects hs (fetch_of_codeAt_long hc hlong)⟩

/-- Settles O11: the fetch of the first word raises, or that of the second, which bit 15 of the first alone asks for. -/
theorem stepFetchBusErrors : Obligations.StepFetchBusErrors := by
  intro s hs
  refine ⟨fun hmissing => ?_, fun w0 hc hlong hmissing => ?_⟩
  · exact step_of_fetch_fault hs (fetch_of_first_missing (not_fetchable_iff.mpr hmissing))
  · exact step_of_fetch_fault hs (fetch_of_second_missing hc hlong (not_fetchable_iff.mpr hmissing))

/-- Settles O33: the state is `halt s`, and the only word that decodes to the break is the break's encoding. -/
theorem breakHalts : Obligations.BreakHalts := by
  have hwf : (Instr.nop16 0 0).wf = true := by decide
  have hencode : encode (.nop16 0 0) = [0x0000] := rfl
  refine ⟨fun s => ?_, ⟨rfl, iff_of_true hwf trivial, hencode⟩, fun w => ?_⟩
  · have hpc : (halt s).pc = s.pc ∨ (halt s).pc = s.pc + 1 := (halt_pc s).imp_right And.left
    exact ⟨halt s, exec_break s, halt_status s, halt_regs s, halt_carry s, halt_dmem s, halt_imem s, halt_cfg s, hpc⟩
  · simp [decode_eq_ok_nil_iff, hwf, hencode]

end Sys2Proof.Proofs

/-! PROOFS of the statement on reset (70_reset_and_hazards.md). Each field of `State.resetWith` is what R330 or the model's choice
sets it to; the two facts below read the register file and data memory through their operations. -/

namespace Sys2Proof.Machine

/-- The register file at reset is 64 copies of one word, so the register read does not matter. -/
@[simp] theorem readReg_resetWith (c : Config) (r : Reg) : readReg (State.resetWith c) r = 0 :=
  Vector.getElem_replicate r.isLt

/-- Data memory at reset is the empty list. -/
@[simp] theorem get_dmem_resetWith (c : Config) (a : Nat) : Memory.get (State.resetWith c).dmem a = none :=
  Memory.get_nil a

end Sys2Proof.Machine

/-! The statement -/

namespace Sys2Proof.Proofs

open Sys2Proof Sys2Proof.Machine

/-- Settles O15: registers and data bytes are read by the two facts above, and every other clause is a field of `State.resetWith`. -/
theorem resetState : Obligations.ResetState :=
  ⟨fun c => ⟨rfl, rfl, get_dmem_resetWith c, readReg_resetWith c, rfl, rfl, rfl, rfl⟩, rfl⟩

end Sys2Proof.Proofs

/-! PROOF of the statement on words written out from the spec (30_encoding.md). The decoder is not run on them: by
`decode_eq_ok_nil_iff` it is enough that each instruction is well formed and that the words are its encoding. -/

namespace Sys2Proof.Proofs

open Sys2Proof Sys2Proof.Machine

/-- Settles O3: each row is an instance of the decoder's equivalence with the encoder, whose two sides are evaluated on that row. -/
theorem decodeOfWrittenWords : Obligations.DecodeOfWrittenWords := by
  refine ⟨?_, ?_, ?_, ?_, ?_, ?_, ?_, ?_, ?_, ?_⟩
  all_goals exact decode_eq_ok_nil_iff.mpr ⟨rfl, rfl⟩

end Sys2Proof.Proofs
